-- ==== Sys2Proof/Word.lean ====
section
/-! DEFINITION. The word types of the Jarpet 810 (spec/00_scope.md, "Units and ranges"). -/

namespace Sys2Proof

/-- One character's eight data bits (R22) or one byte of the profile memory (R186). -/
abbrev Byte := BitVec 8

/-- Local time: an unsigned 32-bit microsecond count that wraps (R1). -/
abbrev Time := BitVec 32

/-- A path distance in mm: unsigned, wrapping at 2^32 (00_scope.md, "Units and ranges"). -/
abbrev Dist := BitVec 32

/-- A heading in BAU: 65,536 to the full turn, adding modulo 65,536. -/
abbrev Bau := BitVec 16

end Sys2Proof
end

