-- ==== Sys2Proof/Syntax.lean ====
section
/-! DEFINITION. The commands: one constructor of `Instr` for each row of spec/opcode_table.json. The
table's rows give no bits and no fields; a command's operands are what the outside world brings to
that step (the levels of the wired inputs it reads, a converter code, a character, the profile memory)
and `dt`, the microseconds that have passed since the command before it (log entry 1). -/

namespace Sys2Proof

/-- A side of an axle: a wheel, a corner, or a kerb side. -/
inductive Side where
  | left
  | right
deriving DecidableEq, Repr

/-- The sense of travel (00_scope.md, "Units and ranges"). -/
inductive Direction where
  | forward
  | reverse
deriving DecidableEq, Repr

/-- The four kinds of frame on the chassis line (R26). -/
inductive FrameKind where
  | status
  | path
  | demand
  | notice
deriving DecidableEq, Repr

/-- The three kinds of door event (R169). -/
inductive DoorEventKind where
  | button
  | edge
  | beam
deriving DecidableEq, Repr

/-- The seven input levels of one door (R168). -/
structure DoorInputs where
  lockSwitch : Bool
  unlockSwitch : Bool
  openSwitch : Bool
  closedSwitch : Bool
  button : Bool
  edge : Bool
  beam : Bool
deriving DecidableEq, Repr

/-- The lock switch levels of the station's first and second door, in increasing door number,
as a reset, an entry to INERT or a clear event reads them (R180, R182). -/
structure LockLevels where
  first : Bool
  second : Bool
deriving DecidableEq, Repr

/-- The cab control levels a cab update reads (R130, R148, R167, R184). Bit `d - 1` of
`release` and of `opens` is the level of door `d`'s release switch and open switch. -/
structure CabInputs where
  holdSwitch : Bool
  kneelLeft : Bool
  kneelRight : Bool
  raise : Bool
  acknowledge : Bool
  release : BitVec 8
  opens : BitVec 8
deriving DecidableEq, Repr

/-- The instants of a character on the chassis line at which the receive half acts: the leading edge of its start bit, from
which the line is busy (R25); the end of its stop bit, when it has been taken (R23), `good` saying that the stop bit stood at
the idle level; and, after a stop bit that did not, the line's return to the idle level (R25). CHARACTER_RECEIVED is given once
for each (log entry 23). -/
inductive CharacterInstant where
  | startBit
  | stopBit (good : Bool)
  | lineIdle
deriving DecidableEq, Repr

/-- The commands of spec/opcode_table.json, in the table's order. -/
inductive Instr where
  /-- POWER_ON (R185): the strap number, the restart input's level and the lock switches at that moment. -/
  | powerOn (strap : Fin 8) (restartHigh : Bool) (locks : LockLevels)
  /-- RESTART (R185): the restart input has been low for `lowFor` µs; the lock switches at that moment. -/
  | restart (dt : Nat) (lowFor : Nat) (locks : LockLevels)
  /-- SUPPLY_SETTLED (R185). -/
  | supplySettled (dt : Nat)
  /-- RESTART_INPUT_HIGH (R185). -/
  | restartInputHigh (dt : Nat)
  /-- PROFILE_LOAD_COMPLETE (R187): the 256 bytes read, and the lock switches at that moment. -/
  | profileLoadComplete (dt : Nat) (memory : List Byte) (locks : LockLevels)
  /-- WHEEL_EDGE (R7): the wheel and the direction line's level at the edge. -/
  | wheelEdge (dt : Nat) (wheel : Side) (direction : Direction)
  /-- SPEED_UPDATE (R9). -/
  | speedUpdate (dt : Nat)
  /-- ZERO_SPEED_TIMEOUT (R9): the wheel whose newest edge is too old. -/
  | zeroSpeedTimeout (dt : Nat) (wheel : Side)
  /-- SCAN_START (R15). -/
  | scanStart (dt : Nat)
  /-- CONVERSION_COMPLETE (R15, R16): the level of the selected input in counts, 0 to 1023, on which the trial settles. -/
  | conversionComplete (dt : Nat) (input : BitVec 10)
  /-- FRAME_RECEIVED (R27): the lock switches, which a clear event or an entry to INERT reads. -/
  | frameReceived (dt : Nat) (locks : LockLevels)
  /-- FRAME_GAP_TIMEOUT (R23). -/
  | frameGapTimeout (dt : Nat)
  /-- IDLE_WAIT_COMPLETE (R25). -/
  | idleWaitComplete (dt : Nat)
  /-- FRAME_BEGIN (R31): the kind whose slot has come. -/
  | frameBegin (dt : Nat) (kind : FrameKind)
  /-- TRANSMIT_COMPLETE (R33). -/
  | transmitComplete (dt : Nat)
  /-- STATUS_REQUEST (R34). -/
  | statusRequest (dt : Nat)
  /-- NOTICE_INTERVAL (R37). -/
  | noticeInterval (dt : Nat)
  /-- STATUS_EXPIRY (R40): the peer whose record is too old. -/
  | statusExpiry (dt : Nat) (peer : Fin 8)
  /-- DEMAND_EXPIRY (R42). -/
  | demandExpiry (dt : Nat)
  /-- STALE_EPISODE_BEGIN (R49). -/
  | staleEpisodeBegin (dt : Nat)
  /-- STEERING_UPDATE (R71). -/
  | steeringUpdate (dt : Nat)
  /-- LOCK_RELEASE_TIME_END (R75). -/
  | lockReleaseTimeEnd (dt : Nat)
  /-- CENTRING_SETTLE_END (R80). -/
  | centringSettleEnd (dt : Nat)
  /-- TRACKING_TIME_END (R90). -/
  | trackingTimeEnd (dt : Nat)
  /-- JOINT_UPDATE (R96). -/
  | jointUpdate (dt : Nat)
  /-- RISK_CLEAR_TIME_END (R101). -/
  | riskClearTimeEnd (dt : Nat)
  /-- DAMPER_LOW_TIME_END (R105). -/
  | damperLowTimeEnd (dt : Nat)
  /-- DAMPER_GOOD_TIME_END (R105). -/
  | damperGoodTimeEnd (dt : Nat)
  /-- BRAKE_UPDATE (R109). -/
  | brakeUpdate (dt : Nat)
  /-- CAB_UPDATE (R127): the cab control levels. -/
  | cabUpdate (dt : Nat) (inputs : CabInputs)
  /-- LAMP_TEST_END (R192). -/
  | lampTestEnd (dt : Nat)
  /-- HOLD_UPDATE (R133). -/
  | holdUpdate (dt : Nat)
  /-- CONFIRM_TIME_END (R134). -/
  | confirmTimeEnd (dt : Nat)
  /-- APPLY_FAULT_TIME_END (R137). -/
  | applyFaultTimeEnd (dt : Nat)
  /-- RELEASE_TIME_END (R141). -/
  | releaseTimeEnd (dt : Nat)
  /-- LEVEL_UPDATE (R151): the skirt contact's level. -/
  | levelUpdate (dt : Nat) (skirt : Bool)
  /-- PULSE_LIMIT_END (R154): the corner, and the skirt contact's level. -/
  | pulseLimitEnd (dt : Nat) (corner : Side) (skirt : Bool)
  /-- CLOSURE_COMPLETE (R154): the corner. -/
  | closureComplete (dt : Nat) (corner : Side)
  /-- SETTLE_TIME_END (R155): the corner, and the skirt contact's level. -/
  | settleTimeEnd (dt : Nat) (corner : Side) (skirt : Bool)
  /-- SKIRT_CONTACT (R162). -/
  | skirtContact (dt : Nat)
  /-- DOOR_EVENT (R169): the door's number and the input that became active. -/
  | doorEvent (dt : Nat) (door : Nat) (kind : DoorEventKind)
  /-- DOOR_UPDATE (R170): the input levels of the station's first and second door. -/
  | doorUpdate (dt : Nat) (first second : DoorInputs)
  /-- DRIVE_STOP_END (R177): the door's number. -/
  | driveStopEnd (dt : Nat) (door : Nat)
  /-- DWELL_TIME_END (R175): the door's number, and the input levels of both doors. -/
  | dwellTimeEnd (dt : Nat) (door : Nat) (first second : DoorInputs)
  /-- DOOR_DEADLINE_PASSED (R179): the door's number, and the input levels of both doors. -/
  | doorDeadlinePassed (dt : Nat) (door : Nat) (first second : DoorInputs)
  /-- LISTEN_WINDOW_END (R189). -/
  | listenWindowEnd (dt : Nat)
  /-- PEER_SILENCE_TIMEOUT (R190). -/
  | peerSilenceTimeout (dt : Nat)
  /-- CHARACTER_RECEIVED (R23, R25): the character that arrives, which is read at its stop bit alone, and the instant. -/
  | characterReceived (dt : Nat) (char : Byte) (instant : CharacterInstant)
  /-- SUPPLY_LOSS (R33). -/
  | supplyLoss (dt : Nat)
deriving DecidableEq, Repr

end Sys2Proof
end

