-- ==== Sys2Proof/Config.lean ====
section
/-! DEFINITION. What the part fixes (times, limits and thresholds that have no profile field) and the free
values: opaque constants without a body, of which nothing can be proved. -/

namespace Sys2Proof.Config

/-- Free value (log entry 12): the standstill flag of the n-th STATUS frame an INERT axle station begins.
The peer view forms no facts there (R39), so the spec gives the flag no value. -/
opaque inertStandstill : Nat → Bool

/-- Free value (log entry 13): the spacing in mm of a joint's neighbour axle when the range clamps of R188
have left the joint with no axle on that side. -/
opaque unplacedSpacing : Nat

/-- Speed update period (R9), µs. -/
def speedPeriod : Nat := 5000
/-- Zero-speed timeout (R9), µs. -/
def zeroSpeedTimeout : Nat := 400000
/-- Depth of a wheel-snapshot queue (R7). -/
def snapshotDepth : Nat := 8
/-- Scan period (R15), µs. -/
def scanPeriod : Nat := 2000
/-- The converter's trial value at the selection of a channel: mid-scale (R15). -/
def midScale : BitVec 10 := 512
/-- Cap on the time step of the heading integrator (R53), µs. -/
def yawStepCap : Nat := 10000
/-- Bridge factor of the path queue (R60). -/
def bridgeFactor : Nat := 4
/-- DEMAND freshness limit (R42), µs. -/
def demandLimit : Nat := 30000
/-- DEMAND age beyond which the grace time has run (R48), µs. -/
def graceLimit : Nat := 230000
/-- Standstill time (R45), µs. -/
def standstillTime : Nat := 300000
/-- Steering update period (R71), µs. -/
def steeringPeriod : Nat := 5000
/-- Lock release time (R75), µs. -/
def lockReleaseTime : Nat := 100000
/-- Centring settle time (R80), µs. -/
def centringSettleTime : Nat := 300000
/-- Lock band (R79), cdeg. -/
def lockBand : Int := 50
/-- Tracking band (R89), cdeg. -/
def trackingBand : Int := 300
/-- Tracking time (R90), µs. -/
def trackingTime : Nat := 300000
/-- Joint update period (R96), µs. -/
def jointPeriod : Nat := 10000
/-- Risk speed (R100), mm/s. -/
def riskSpeed : Nat := 1400
/-- Risk clear time (R101), µs. -/
def riskClearTime : Nat := 300000
/-- Firm damping command and damping floor in STATIC and REVERSE (R103, R105), %. -/
def firmDamping : Nat := 60
/-- Damper pressure threshold (R105), kPa. -/
def damperPressure : Int := 150
/-- Time of low damper pressure that sets the damper-lost standing (R105), µs. -/
def damperLowTime : Nat := 1000000
/-- Time of good damper pressure that clears it (R105), µs. -/
def damperGoodTime : Nat := 300000
/-- Brake update period (R109), µs. -/
def brakePeriod : Nat := 5000
/-- Slip threshold into RELEASE (R118), ‰. -/
def slipHigh : Int := 150
/-- Slip threshold out of RELEASE (R119), ‰. -/
def slipLow : Int := 80
/-- Slip speed (R117), mm/s. -/
def slipSpeed : Nat := 1000
/-- Release step (R118), kPa. -/
def releaseStep : Nat := 40
/-- Reapply step (R121), kPa. -/
def reapplyStep : Nat := 10
/-- Cab update period (R127), µs. -/
def cabPeriod : Nat := 10000
/-- Lamp test and notice display time (R192), µs. -/
def lampTime : Nat := 2000000
/-- Hold update period (R133), µs. -/
def holdPeriod : Nat := 10000
/-- Confirm time (R134), µs. -/
def confirmTime : Nat := 100000
/-- Apply fault time (R137), µs. -/
def applyFaultTime : Nat := 1000000
/-- Release time (R141), µs. -/
def releaseTime : Nat := 200000
/-- Level update period while STANDSTILL holds (R151), µs. -/
def levelPeriodStill : Nat := 50000
/-- Level update period while it does not (R151), µs. -/
def levelPeriodMoving : Nat := 250000
/-- Depth of a height history (R152). -/
def historyDepth : Nat := 8
/-- Bellows floor (R153), kPa. -/
def bellowsFloor : Int := 100
/-- Pulse limit (R154), µs. -/
def pulseLimit : Nat := 2000000
/-- Valve close time (R150, R154), µs. -/
def valveCloseTime : Nat := 40000
/-- Settle time (R155), µs. -/
def settleTime : Nat := 300000
/-- Pulses in a row without movement that make a TIMEOUT (R155). -/
def progressLimit : Nat := 4
/-- Movement that counts as progress (R155), mm. -/
def progressMovement : Nat := 2
/-- KNELT band (R160), mm. -/
def kneltBand : Nat := 5
/-- Depth of the door event queue (R169). -/
def doorQueueDepth : Nat := 8
/-- Door update period (R170), µs. -/
def doorPeriod : Nat := 20000
/-- Lock and unlock deadline (R168), µs. -/
def lockDeadline : Nat := 500000
/-- Drive deadline (R168), µs. -/
def driveDeadline : Nat := 4000000
/-- REVERSING deadline (R168), µs. -/
def reversingDeadline : Nat := 4150000
/-- Drive stop (R177), µs. -/
def driveStopTime : Nat := 150000
/-- Obstruction limit (R177). -/
def obstructionLimit : Nat := 3
/-- Listen window (R189), µs. -/
def listenWindow : Nat := 200000
/-- Peer silence (R190), µs. -/
def peerSilence : Nat := 100000
/-- Least low time of the restart input that is a restart (R185), µs. -/
def restartPulse : Nat := 10
/-- Start character (R23). -/
def startChar : Byte := 0xC3
/-- Greatest body length (R23). -/
def maxBody : Nat := 25
/-- Idle bit times awaited by the receive half and allowed inside a frame (R23, R25). -/
def idleBits : Nat := 20
/-- Bit times in a character (R22). -/
def charBits : Nat := 10
/-- Bit times in a slot (R22). -/
def slotBits : Nat := 12
/-- Slots in a round (R30). -/
def roundSlots : Nat := 19

end Sys2Proof.Config
end

