-- ==== Sys2Proof/Machine/State.lean ====
section
/-! DEFINITION. The state of one station, every block of spec/00_scope.md ("Block diagram") as plain data,
the reasons a step can stop, and the state after reset. -/

namespace Sys2Proof.Machine

/-! ### Why a step can stop -/

/-- The spec gives no step that stops the part with a fault, so there is no reason to name. -/
inductive Fault where
deriving DecidableEq, Repr

/-- Why a command is refused. -/
inductive Refusal where
  /-- Raised by `exec` for a command that has no meaning yet; safe, since nothing is claimed of it. No arm uses it. -/
  | notModelled (mnemonic : String)
deriving DecidableEq, Repr

/-! ### Station control and the profile -/

/-- The six station states (10, R185 to R191). -/
inductive StationState where
  | powerup
  | profileLoad
  | listening
  | active
  | isolated
  | inert
deriving DecidableEq, Repr

/-- The check result (R185, R187). -/
inductive CheckResult where
  | none
  | passed
  | failed
deriving DecidableEq, Repr

/-- A channel's calibration: gain in /256 and signed offset (R14, R186). -/
structure ChannelCal where
  gain : Nat
  offset : Int
deriving DecidableEq, Repr

/-- An AXLE station record (R186). `spacing` is `none` when stored as FFFF, and 0 at the leading axle (R188). -/
structure AxleRec where
  spacing : Option Nat
  followGain : Nat
  springFactor : Nat
  unsprung : Nat
  brakeGain : Nat
  pitch : Nat
deriving DecidableEq, Repr

/-- A JOINT station record (R186). -/
structure JointRec where
  spacing : Option Nat
  ratio : Nat
  eOn : Nat
  eOff : Nat
  staticLimit : Nat
  reverseLimit : Nat
  endLimit : Nat
  vHi : Nat
  d0 : Nat
  d1 : Nat
  kd : Nat
  stretch : Nat
deriving DecidableEq, Repr

/-- What the profile says of one station number (R186): its role, with the axle position or joint number. -/
inductive StationRec where
  | absent
  | cab
  | axle (position : Nat) (record : AxleRec)
  | joint (number : Nat) (record : JointRec)
deriving DecidableEq, Repr

/-- A listed door of the profile's door table (R186). -/
structure DoorInfo where
  number : Nat
  owner : Fin 8
  side : Side
deriving DecidableEq, Repr

/-- The profile image as the station uses it: decoded (R186) and clamped (R188). -/
structure Profile where
  stations : Vector StationRec 8
  doors : List DoorInfo
  pathStep : Nat
  lagLimit : Nat
  fullLimit : Nat
  kneelLimit : Nat
  rateStep : Nat
  v1 : Nat
  v2 : Nat
  pMax : Nat
  fallback : Nat
  reverseStop : Nat
  holdPressure : Nat
  rideHeight : Nat
  kneelDrop : Nat
  kneelFloor : Nat
  dwellMs : Nat
  latency : Nat
  divisor : Nat
  statusSlow : Bool
  noticeCode : Nat
  capacityCode : Nat
  axleCal : List ChannelCal
  jointCal : List ChannelCal
  cabCal : List ChannelCal
deriving DecidableEq, Repr

/-- Station control (10, "Station control holds"). -/
structure Control where
  station : StationState
  strap : Fin 8
  image : List Byte
  prof : Profile
  signature : BitVec 16
  check : CheckResult
  crcFailed : Bool
  heard : Bool
  duplicate : Bool
  lastPeer : Option Time
  listenStart : Option Time
  settled : Bool
  restartLow : Bool
deriving DecidableEq, Repr

/-- The next update of each schedule of R4, or none while it does not run. -/
structure Schedules where
  speed : Option Time
  scan : Option Time
  status : Option Time
  notice : Option Time
  steering : Option Time
  joint : Option Time
  brake : Option Time
  cab : Option Time
  hold : Option Time
  level : Option Time
  door : Option Time
deriving DecidableEq, Repr

/-! ### Pulse capture -/

/-- An entry of a wheel-snapshot queue (R7). -/
structure Snapshot where
  time : Time
  direction : Direction
deriving DecidableEq, Repr

/-- One wheel: its snapshot queue, oldest first, and its speed in mm/s (R5). -/
structure Wheel where
  queue : List Snapshot
  speed : Nat
deriving DecidableEq, Repr

/-- Pulse capture (R5). -/
structure PulseCapture where
  left : Wheel
  right : Wheel
  axleSpeed : Nat
  direction : Direction
  pathOdo : Dist
  ownOdo : Dist
deriving DecidableEq, Repr

/-! ### Converter scan -/

/-- A channel's condition (R16). -/
inductive Condition where
  | good
  | holding
  | failed
deriving DecidableEq, Repr

/-- A channel record (R16). -/
structure Channel where
  raw : BitVec 10
  value : Option Int
  condition : Condition
  holdCount : Nat
  goodCount : Nat
deriving DecidableEq, Repr

/-- A conversion in flight: the channel selected, and the converter's trial value, whose bits settle when the
conversion completes (R15; log entry 25). Nothing but the scan reads the trial. -/
structure Conversion where
  channel : Fin 8
  trial : BitVec 10
deriving DecidableEq, Repr

/-- The channel table and the conversion in flight (R15, R16). A role uses the first channels of the table (R14). -/
structure Scan where
  channels : Vector Channel 8
  conv : Option Conversion
deriving DecidableEq, Repr

/-! ### Records carried by frames -/

/-- The 24 event kinds of R26, in the order of their codes 1 to 24. -/
inductive EventKind where
  | pathOverrun
  | pathLag
  | steerFault
  | slipActive
  | holdFault
  | fallbackStop
  | reverseStop
  | jackknifeRisk
  | jointEnd
  | levelTimeout
  | kneelAborted
  | doorLockFault
  | doorDriveFault
  | doorObstructed
  | doorEventOverrun
  | channelHold
  | channelFail
  | snapshotOverrun
  | profileClamped
  | profileMismatch
  | unlistedStation
  | duplicateStation
  | malformedFrame
  | linkLoss
deriving DecidableEq, Repr

/-- The six telltale groups (R26, R192). -/
inductive Group where
  | steer
  | brake
  | joint
  | level
  | door
  | station
deriving DecidableEq, Repr

/-- The hold field of STATUS (R26, R143). -/
inductive HoldField where
  | off
  | applying
  | held
  | releasing
deriving DecidableEq, Repr

/-- The level state (R157). -/
inductive LevelState where
  | ride
  | levelling
  | kneeling
  | knelt
  | raising
  | fault
deriving DecidableEq, Repr

/-- The steer state (R71, R93). -/
inductive SteerState where
  | leading
  | locked
  | lockRelease
  | following
  | holding
  | centring
deriving DecidableEq, Repr

/-- A door state as a STATUS door entry carries it (R26). -/
inductive DoorField where
  | locked
  | unlocking
  | released
  | opening
  | opened
  | closing
  | reversing
  | locking
  | fault
  | lockedFault
deriving DecidableEq, Repr

/-- The joint state (R99). -/
inductive JointState where
  | tracking
  | static
  | reverse
  | fault
deriving DecidableEq, Repr

/-- The demand quality (R128). -/
inductive Quality where
  | both
  | one
  | fallback
deriving DecidableEq, Repr

/-- A hold request (R26). -/
inductive HoldRequest where
  | none
  | hold
deriving DecidableEq, Repr

/-- A kneel request, and the sides of a kneel (R26, R158). -/
inductive KneelRequest where
  | none
  | left
  | right
  | both
deriving DecidableEq, Repr

/-- The latch set of STATUS (R26, R35). -/
structure LatchSet where
  steer : Bool
  level : Bool
  door : Bool
  hold : Bool
deriving DecidableEq, Repr

/-- One STATUS door entry (R26). -/
structure DoorEntry where
  number : Nat
  state : DoorField
deriving DecidableEq, Repr

/-- The AXLE role part of STATUS (R26). -/
structure AxlePart where
  speed : Nat
  direction : Direction
  standstill : Bool
  frozen : Bool
  slip : Bool
  load : Nat
  hold : HoldField
  level : LevelState
  steer : SteerState
  command : Int
  doors : List DoorEntry
deriving DecidableEq, Repr

/-- The JOINT role part of STATUS (R26). -/
structure JointPart where
  angle : Int
  state : JointState
  risk : Bool
  damping : Nat
deriving DecidableEq, Repr

/-- The role part of STATUS (R26). -/
inductive RolePart where
  | none
  | axle (part : AxlePart)
  | joint (part : JointPart)
deriving DecidableEq, Repr

/-- A STATUS record (R26). Its station state is one of LISTENING, ACTIVE, ISOLATED and INERT in every record that is sent. -/
structure StatusRec where
  station : StationState
  signature : BitVec 16
  latches : LatchSet
  seq : BitVec 8
  part : RolePart
deriving DecidableEq, Repr

/-- A DEMAND record (R26). -/
structure DemandRec where
  seq : BitVec 8
  brake : Nat
  quality : Quality
  hold : HoldRequest
  kneel : KneelRequest
  clear : BitVec 8
  release : List Nat
  opens : List Nat
deriving DecidableEq, Repr

/-- A laid path point, as a PATH frame carries it (R26, R56); its direction is always FORWARD. -/
structure PathPoint where
  epoch : BitVec 4
  distance : Dist
  tangent : Bau
  section_ : Bau
deriving DecidableEq, Repr

/-! ### Line interface -/

/-- What the receive half is doing (R25). -/
inductive ReceiveMode where
  | off
  | waiting (since : Time)
  | taking
deriving DecidableEq, Repr

/-- The transmit set: which kinds are pending (R32). -/
structure TransmitSet where
  status : Bool
  path : Bool
  demand : Bool
  notice : Bool
deriving DecidableEq, Repr

/-- A frame in flight: its kind, its characters from the start character on, and when it began (R33). -/
structure Sending where
  kind : FrameKind
  chars : List Byte
  start : Time
deriving DecidableEq, Repr

/-- A complete received frame: the characters after the start character, and the local time at the
detection of its last CRC character (R29). -/
structure CompleteFrame where
  chars : List Byte
  detected : Time
deriving DecidableEq, Repr

/-- The line interface (02). `lineActive` is the level of the line between characters: active from a stop bit that is not at
the idle level until the line returns to it (R23, R25). `startBit` is the instant of the start bit of the character that is
arriving, none when none is (R25). `summary` holds each kind at most once, in increasing code (R36, R37). -/
structure LineInterface where
  lineActive : Bool
  mode : ReceiveMode
  startBit : Option Time
  frame : Option (List Byte)
  lastChar : Time
  complete : Option CompleteFrame
  quiet : Option Time
  pending : TransmitSet
  sending : Option Sending
  statusSeq : BitVec 8
  demandSeq : BitVec 8
  summary : List EventKind
deriving DecidableEq, Repr

/-! ### Peer view -/

/-- Freshness (00_scope.md, "Freshness"). -/
inductive Freshness where
  | never
  | fresh
  | stale
deriving DecidableEq, Repr

/-- A peer-table entry (02, "The peer table"); present and role are the profile's. -/
structure PeerEntry where
  status : Option StatusRec
  arrival : Time
  freshness : Freshness
  lastSignature : Option (BitVec 16)
deriving DecidableEq, Repr

/-- The DEMAND part of station 0's entry (02, "The peer table"). -/
structure DemandItem where
  record : Option DemandRec
  arrival : Time
  freshness : Freshness
deriving DecidableEq, Repr

/-- The peer view: the peer table and the five items of working state (R39). -/
structure PeerView where
  peers : Vector PeerEntry 8
  demand : DemandItem
  lastMoving : Option Time
  holdStart : Option Time
  episode : Bool
  frozen : List Nat
  actedClear : Option (BitVec 8)
deriving DecidableEq, Repr

/-! ### Path unit -/

/-- The laying state (R52). -/
inductive LayingState where
  | idle
  | laying
  | reversing
  | headingLost
deriving DecidableEq, Repr

/-- A point of the path queue (03, "Taking the path in"). -/
structure QueuePoint where
  distance : Dist
  tangent : Bau
  section_ : Bau
  epoch : BitVec 4
  breakBefore : Bool
deriving DecidableEq, Repr

/-- The path unit (03). `queue` runs from oldest to newest. -/
structure PathUnit where
  laying : LayingState
  acc : BitVec 32
  prevYaw : Option Time
  epoch : BitVec 4
  nextStep : Dist
  newest : Option PathPoint
  queue : List QueuePoint
  queueEpoch : Option (BitVec 4)
  lagRef : Option Dist
  lagStands : Bool
deriving DecidableEq, Repr

/-! ### Steering, joint and brake units -/

/-- The steering unit (04, R93). -/
structure SteeringUnit where
  state : SteerState
  command : Int
  setPoint : Int
  lockValve : Bool
  latch : Bool
  releaseStart : Option Time
  trackStart : Option Time
  zeroStart : Option Time
deriving DecidableEq, Repr

/-- The joint unit (05, R107). -/
structure JointUnit where
  state : JointState
  angle : Int
  risk : Bool
  clearStart : Option Time
  damping : Nat
  output : Nat
  beyondEnd : Bool
  damperLost : Bool
  lowStart : Option Time
  goodStart : Option Time
deriving DecidableEq, Repr

/-- A wheel's slip state (06). -/
inductive SlipState where
  | apply
  | release
  | holdP
  | reapply
deriving DecidableEq, Repr

/-- The brake unit's record of one wheel (06). -/
structure BrakeWheel where
  slip : SlipState
  target : Nat
  setPoint : Nat
  holdGood : Nat
deriving DecidableEq, Repr

/-- The brake unit (06, R125). -/
structure BrakeUnit where
  load : Option Nat
  frozen : Option Nat
  reverseStop : Bool
  demand : Nat
  left : BrakeWheel
  right : BrakeWheel
deriving DecidableEq, Repr

/-! ### Hold unit -/

/-- The hold state (07). -/
inductive HoldState where
  | off
  | applying
  | held
  | releasePending
  | releasing
deriving DecidableEq, Repr

/-- The hold unit (07, R146). `valve` is the hold valve's output, true while energised (released). -/
structure HoldUnit where
  state : HoldState
  request : Option HoldRequest
  latch : Bool
  applyStart : Option Time
  confirmStart : Option Time
  releaseStart : Option Time
  valve : Bool
deriving DecidableEq, Repr

/-! ### Level unit -/

/-- A corner's phase (08). -/
inductive CornerPhase where
  | steady
  | filling
  | exhausting
  | closing
  | settling
  | fault
deriving DecidableEq, Repr

/-- Why a corner stands in FAULT (08). -/
inductive FaultCause where
  | none
  | timeout
  | channel
deriving DecidableEq, Repr

/-- The kneel phase (08). -/
inductive KneelPhase where
  | none
  | kneeling
  | knelt
  | raising
deriving DecidableEq, Repr

/-- A corner record (08), with its two valve outputs. `unchecked` marks that the last pulse has had no progress check yet
(R155; log entry 35). -/
structure Corner where
  history : List Int
  height : Option Int
  target : Int
  phase : CornerPhase
  pulseStart : Option Time
  pulseHeight : Option Int
  unchecked : Bool
  closureEnd : Option Time
  settleStart : Option Time
  progress : Nat
  travel : Option Int
  cause : FaultCause
  floorBar : Bool
  fillValve : Bool
  exhaustValve : Bool
deriving DecidableEq, Repr

/-- The level unit (08, R165). `restartFault` marks that a restart kept the LEVEL latch and the first level
update has not come (log entry 18). -/
structure LevelUnit where
  left : Corner
  right : Corner
  kneel : KneelPhase
  sides : KneelRequest
  abort : Bool
  levelLatch : Bool
  kneelLatch : Bool
  level : LevelState
  restartFault : Bool
deriving DecidableEq, Repr

/-! ### Door unit -/

/-- A door's state (09). -/
inductive DoorState where
  | locked
  | unlocking
  | released
  | opening
  | opened
  | closing
  | reversing
  | locking
  | fault
deriving DecidableEq, Repr

/-- The door drive's settings (R168). -/
inductive Drive where
  | off
  | opening
  | closing
deriving DecidableEq, Repr

/-- A door record (09), with its two outputs. `lockedFault` is the report LOCKED_FAULT of a door in FAULT (R179). `heldFault`
marks a door that a restart met OPEN: it is reported FAULT until the clear event (R182). -/
structure Door where
  number : Nat
  side : Side
  state : DoorState
  count : Nat
  latch : Bool
  deadline : Option Time
  dwellStart : Option Time
  driveStop : Option Time
  openRequest : Bool
  lockedFault : Bool
  heldFault : Bool
  lockActuator : Bool
  drive : Drive
deriving DecidableEq, Repr

/-- An entry of the door event queue (R169). -/
structure DoorEvent where
  time : Time
  door : Nat
  kind : DoorEventKind
deriving DecidableEq, Repr

/-- The door unit (09): the door table in increasing door number, the event queue, oldest first, and the
lock switch levels at the last reset (log entry 33). -/
structure DoorUnit where
  doors : List Door
  queue : List DoorEvent
  resetLocks : LockLevels
deriving DecidableEq, Repr

/-! ### Cab unit -/

/-- A row of the telltale table (R192). -/
structure Telltale where
  lit : Bool
  last : Option Time
deriving DecidableEq, Repr

/-- The telltale table (R192). -/
structure Telltales where
  steer : Telltale
  brake : Telltale
  joint : Telltale
  level : Telltale
  door : Telltale
  station : Telltale
deriving DecidableEq, Repr

/-- The kneel button levels at a cab update (R167). -/
structure ButtonLevels where
  left : Bool
  right : Bool
  raise : Bool
deriving DecidableEq, Repr

/-- The cab unit (06, 08, 10). -/
structure CabUnit where
  chosen : Option Int
  quality : Quality
  brake : Nat
  clearCount : BitVec 8
  ack : Bool
  ackUnread : Bool
  kneelLatch : KneelRequest
  buttons : Option ButtonLevels
  telltales : Telltales
  lampStart : Option Time
  lampOver : Bool
deriving DecidableEq, Repr

/-! ### The whole state -/

/-- One station. `pending` is the queue of waiting commands, first in, first out; `draws` counts the free
values drawn (both are the model's own). -/
structure State where
  powered : Bool
  now : Time
  sc : Control
  sched : Schedules
  pc : PulseCapture
  cs : Scan
  li : LineInterface
  pv : PeerView
  pu : PathUnit
  su : SteeringUnit
  ju : JointUnit
  bu : BrakeUnit
  hu : HoldUnit
  lu : LevelUnit
  du : DoorUnit
  cu : CabUnit
  draws : Nat
  pending : List Instr
deriving DecidableEq, Repr

/-! ### Reset values -/

/-- The profile before one is loaded: no station, no door, every field at its default of the profile tables,
and the divisor 5 and 10 ms period of R187 (log entry 6). -/
def Profile.unloaded : Profile where
  stations := Vector.replicate 8 .absent
  doors := []
  pathStep := 250
  lagLimit := 2000
  fullLimit := 1800
  kneelLimit := 600
  rateStep := 20
  v1 := 8333
  v2 := 13889
  pMax := 850
  fallback := 150
  reverseStop := 250
  holdPressure := 600
  rideHeight := 320
  kneelDrop := 70
  kneelFloor := 200
  dwellMs := 5000
  latency := 0
  divisor := 5
  statusSlow := false
  noticeCode := 1
  capacityCode := 1
  axleCal := List.replicate 8 ⟨256, 0⟩
  jointCal := List.replicate 2 ⟨256, 0⟩
  cabCal := List.replicate 2 ⟨256, 0⟩

/-- No schedule runs (R4). -/
def Schedules.stopped : Schedules where
  speed := none
  scan := none
  status := none
  notice := none
  steering := none
  joint := none
  brake := none
  cab := none
  hold := none
  level := none
  door := none

/-- Station control after power-on (R185). -/
def Control.reset : Control where
  station := .powerup
  strap := 0
  image := []
  prof := Profile.unloaded
  signature := 0
  check := .none
  crcFailed := false
  heard := false
  duplicate := false
  lastPeer := none
  listenStart := none
  settled := false
  restartLow := false

/-- Pulse capture's reset state (R5). -/
def PulseCapture.reset : PulseCapture where
  left := ⟨[], 0⟩
  right := ⟨[], 0⟩
  axleSpeed := 0
  direction := .forward
  pathOdo := 0
  ownOdo := 0

/-- A channel's reset contents (R21). -/
def Channel.reset : Channel where
  raw := 512
  value := none
  condition := .good
  holdCount := 0
  goodCount := 0

/-- The converter scan's reset contents (R21). -/
def Scan.reset : Scan where
  channels := Vector.replicate 8 Channel.reset
  conv := none

/-- The empty transmit set (R33). -/
def TransmitSet.empty : TransmitSet := ⟨false, false, false, false⟩

/-- The line interface after power-on (R25, R32, R33, R36). That the line then stands at the idle level is the model's choice
(log entry 43). -/
def LineInterface.reset : LineInterface where
  lineActive := false
  mode := .off
  startBit := none
  frame := none
  lastChar := 0
  complete := none
  quiet := none
  pending := TransmitSet.empty
  sending := none
  statusSeq := 0
  demandSeq := 0
  summary := []

/-- A peer entry after a reset (R39). R39 gives a NEVER entry no record, and states no arrival time for it: that the arrival
stands at 0 is the model's choice (log entry 41). -/
def PeerEntry.reset : PeerEntry where
  status := none
  arrival := 0
  freshness := .never
  lastSignature := none

/-- The peer view after a reset (R39). That the arrival of the NEVER DEMAND item stands at 0 is the model's choice, as in
a peer entry (log entry 41). -/
def PeerView.reset : PeerView where
  peers := Vector.replicate 8 PeerEntry.reset
  demand := ⟨none, 0, .never⟩
  lastMoving := none
  holdStart := none
  episode := false
  frozen := []
  actedClear := none

/-- The path unit's reset values, with the path step of the profile (R59, R62). -/
def PathUnit.reset (pathStep : Nat) : PathUnit where
  laying := .idle
  acc := 0
  prevYaw := none
  epoch := 0
  nextStep := BitVec.ofNat 32 pathStep
  newest := none
  queue := []
  queueEpoch := none
  lagRef := none
  lagStands := false

/-- The steering unit's reset values, with the latch given (R93). -/
def SteeringUnit.reset (latch : Bool) : SteeringUnit where
  state := .locked
  command := 0
  setPoint := 0
  lockValve := false
  latch := latch
  releaseStart := none
  trackStart := none
  zeroStart := none

/-- The joint unit's reset values (R107). -/
def JointUnit.reset : JointUnit where
  state := .tracking
  angle := 0
  risk := false
  clearStart := none
  damping := 100
  output := 100
  beyondEnd := false
  damperLost := false
  lowStart := none
  goodStart := none

/-- A wheel of the brake unit at reset (R125). -/
def BrakeWheel.reset : BrakeWheel := ⟨.apply, 0, 0, 0⟩

/-- The brake unit's reset values (R125). -/
def BrakeUnit.reset : BrakeUnit where
  load := none
  frozen := none
  reverseStop := false
  demand := 0
  left := BrakeWheel.reset
  right := BrakeWheel.reset

/-- The hold unit's reset values, with the latch given (R146). -/
def HoldUnit.reset (latch : Bool) : HoldUnit where
  state := .applying
  request := none
  latch := latch
  applyStart := none
  confirmStart := none
  releaseStart := none
  valve := false

/-- A corner's reset values, with the ride height of the profile (R165). -/
def Corner.reset (rideHeight : Nat) : Corner where
  history := []
  height := none
  target := rideHeight
  phase := .steady
  pulseStart := none
  pulseHeight := none
  unchecked := false
  closureEnd := none
  settleStart := none
  progress := 0
  travel := none
  cause := .none
  floorBar := false
  fillValve := false
  exhaustValve := false

/-- The level unit's power-on column of R165, with the two latches given. -/
def LevelUnit.reset (rideHeight : Nat) (levelLatch kneelLatch : Bool) : LevelUnit where
  left := Corner.reset rideHeight
  right := Corner.reset rideHeight
  kneel := .none
  sides := .none
  abort := false
  levelLatch := levelLatch
  kneelLatch := kneelLatch
  level := .levelling
  restartFault := false

/-- The door unit with no door table (R182). -/
def DoorUnit.reset (locks : LockLevels) : DoorUnit := ⟨[], [], locks⟩

/-- All six telltales lit, with no last-notice time (R192). -/
def Telltales.reset : Telltales where
  steer := ⟨true, none⟩
  brake := ⟨true, none⟩
  joint := ⟨true, none⟩
  level := ⟨true, none⟩
  door := ⟨true, none⟩
  station := ⟨true, none⟩

/-- The cab unit's reset values, with the clear count given (R131, R167, R192). -/
def CabUnit.reset (clearCount : BitVec 8) (ackUnread : Bool) : CabUnit where
  chosen := none
  quality := .fallback
  brake := 0
  clearCount := clearCount
  ack := false
  ackUnread := ackUnread
  kneelLatch := .none
  buttons := none
  telltales := Telltales.reset
  lampStart := none
  lampOver := false

/-- The machine right after power-on begins (R1, R185): POWERUP, every unit at its power-on values, local time
0. The strap 0, the restart input high and both lock switches inactive are the model's choices (log entry 4). -/
def State.reset : State where
  powered := true
  now := 0
  sc := Control.reset
  sched := Schedules.stopped
  pc := PulseCapture.reset
  cs := Scan.reset
  li := LineInterface.reset
  pv := PeerView.reset
  pu := PathUnit.reset Profile.unloaded.pathStep
  su := SteeringUnit.reset false
  ju := JointUnit.reset
  bu := BrakeUnit.reset
  hu := HoldUnit.reset false
  lu := LevelUnit.reset Profile.unloaded.rideHeight false false
  du := DoorUnit.reset ⟨false, false⟩
  cu := CabUnit.reset 0 false
  draws := 0
  pending := []

end Sys2Proof.Machine
end

