-- ==== Sys2Proof/Machine/Operands.lean ====
section
/-! DEFINITION. The arithmetic of spec/00_scope.md ("Modular arithmetic", "Rounding", "Clamping"), the three time
forms of R3, and how a step reads the profile, the channel table and its own role. -/

namespace Sys2Proof.Machine

/-! ### Time (R3) -/

/-- The age of a stamp at local time `now`: the difference modulo 2^32, read as unsigned (R3 a). -/
def age (now stamp : Time) : Nat := (now - stamp).toNat

/-- A deadline has passed: the difference modulo 2^32, read as signed, is zero or positive (R3 c). -/
def reached (now deadline : Time) : Bool := decide (0 ≤ (now - deadline).toInt)

/-- A held deadline has passed. -/
def passed (deadline : Option Time) (now : Time) : Bool :=
  match deadline with
  | some d => reached now d
  | none => false

/-- A held start is at least `limit` µs old (R3 b). -/
def lasted (start : Option Time) (limit : Nat) (now : Time) : Bool :=
  match start with
  | some t => decide (limit ≤ age now t)
  | none => false

/-- The local time `us` microseconds after `now`. -/
def later (now : Time) (us : Nat) : Time := now + BitVec.ofNat 32 us

/-- A start of R3 b: kept if it is held, otherwise the present local time. -/
def startOr (start : Option Time) (now : Time) : Option Time := some (start.getD now)

/-! ### Arithmetic -/

/-- Two path distances compared: the signed difference modulo 2^32. -/
def aheadBy (a b : Dist) : Int := (a - b).toInt

/-- The signed modular difference of two angles. -/
def angleDiff (a b : Bau) : Int := (a - b).toInt

/-- Round half away from zero, computed on the magnitude. -/
def roundDiv (a : Int) (b : Nat) : Int := a.sign * ((a.natAbs * 2 + b) / (2 * b) : Nat)

/-- Truncate toward zero. -/
def truncDiv (a : Int) (b : Nat) : Int := a.tdiv b

/-- Clamp `x` to `[lo, hi]`. -/
def clampInt (lo hi x : Int) : Int := if x < lo then lo else if hi < x then hi else x

/-- Clamp `x` to `[lo, hi]`, on natural numbers. -/
def clampNat (lo hi x : Nat) : Nat := if x < lo then lo else if hi < x then hi else x

/-- The next lower even number of an odd one (R188). -/
def evenDown (x : Nat) : Nat := x - x % 2

/-! ### Bytes (R186, 02 "Frames": high byte first, signed fields in two's complement) -/

/-- Byte `i` of a list, as a number. -/
def byteAt (m : List Byte) (i : Nat) : Nat := (m.getD i 0).toNat

/-- The two-byte field at `i`, high byte first. -/
def wordAt (m : List Byte) (i : Nat) : Nat := byteAt m i * 256 + byteAt m (i + 1)

/-- The signed two-byte field at `i`. -/
def signedAt (m : List Byte) (i : Nat) : Int := (BitVec.ofNat 16 (wordAt m i)).toInt

/-- Bit `k` of a number. -/
def bitOf (x k : Nat) : Bool := x / 2 ^ k % 2 == 1

/-! ### Roles and the profile -/

/-- The eight station numbers. -/
def allStations : List (Fin 8) := [0, 1, 2, 3, 4, 5, 6, 7]

/-- The station number has an AXLE role. -/
def StationRec.isAxle : StationRec → Bool
  | .axle _ _ => true
  | .absent => false
  | .cab => false
  | .joint _ _ => false

/-- The station number has a JOINT role. -/
def StationRec.isJoint : StationRec → Bool
  | .joint _ _ => true
  | .absent => false
  | .cab => false
  | .axle _ _ => false

/-- The station number is present. -/
def StationRec.isPresent (r : StationRec) : Bool := decide (r ≠ .absent)

/-- The station number is the leading axle: AXLE of position 1. -/
def StationRec.isLeading : StationRec → Bool
  | .axle position _ => position == 1
  | .absent => false
  | .cab => false
  | .joint _ _ => false

/-- The station number is a following axle: AXLE of position 2 or higher. -/
def StationRec.isFollowing : StationRec → Bool
  | .axle position _ => decide (2 ≤ position)
  | .absent => false
  | .cab => false
  | .joint _ _ => false

/-- The AXLE record, if the role is AXLE. -/
def StationRec.axle? : StationRec → Option AxleRec
  | .axle _ r => some r
  | .absent => none
  | .cab => none
  | .joint _ _ => none

/-- The JOINT record, if the role is JOINT. -/
def StationRec.joint? : StationRec → Option JointRec
  | .joint _ r => some r
  | .absent => none
  | .cab => none
  | .axle _ _ => none

/-- What the profile says of station `n`. -/
def Profile.station (p : Profile) (n : Fin 8) : StationRec := p.stations[n]

/-- The own station's record of the profile. -/
def State.own (s : State) : StationRec := s.sc.prof.station s.sc.strap

/-- The STATUS period in µs (R186). -/
def Profile.statusPeriod (p : Profile) : Nat := if p.statusSlow then 20000 else 10000

/-- The notice interval in µs (R186). -/
def Profile.noticePeriod (p : Profile) : Nat :=
  if p.noticeCode = 0 then 50000 else if p.noticeCode = 1 then 100000 else 200000

/-- The path queue's capacity (R186). -/
def Profile.queueCapacity (p : Profile) : Nat :=
  if p.capacityCode = 0 then 64 else if p.capacityCode = 1 then 128 else 256

/-- The bit time in µs: 16 × (d + 1) / 48 (R22). -/
def Profile.bitTime (p : Profile) : Nat := (p.divisor + 1) / 3

/-- The STATUS freshness limit in µs: three periods (R40). -/
def Profile.statusLimit (p : Profile) : Nat := 3 * p.statusPeriod

/-- The station the profile lists as leading axle. -/
def Profile.leading (p : Profile) : Option (Fin 8) := allStations.find? fun n => (p.station n).isLeading

/-- The spacings of the present axles that have one; the leading axle's is 0 (R63, R188). -/
def Profile.axleSpacings (p : Profile) : List Nat :=
  allStations.filterMap fun n => (p.station n).axle?.bind (·.spacing)

/-- The spacing of the last axle ahead of a joint at spacing `d` (R63). -/
def Profile.aheadSpacing (p : Profile) (d : Nat) : Option Nat :=
  (p.axleSpacings.filter (· < d)).max?

/-- The spacing of the first axle behind a joint at spacing `d` (R63). -/
def Profile.behindSpacing (p : Profile) (d : Nat) : Option Nat :=
  (p.axleSpacings.filter (d < ·)).min?

/-- The joints ahead of an axle at spacing `d`, the set J_k (R72). -/
def Profile.jointsAhead (p : Profile) (d : Nat) : List (Fin 8 × JointRec) :=
  allStations.filterMap fun n =>
    match p.station n with
    | .joint _ r =>
      match r.spacing with
      | some e => if e < d then some (n, r) else none
      | none => none
    | .absent => none
    | .cab => none
    | .axle _ _ => none

/-- J_k of an AXLE record; none when its spacing is absent (R188). -/
def Profile.jointsOf (p : Profile) (r : AxleRec) : List (Fin 8 × JointRec) :=
  match r.spacing with
  | some d => p.jointsAhead d
  | none => []

/-- The joints of the profile (R113). -/
def Profile.joints (p : Profile) : List (Fin 8) := allStations.filter fun n => (p.station n).isJoint

/-- The axle stations the profile lists present (R46). -/
def Profile.axles (p : Profile) : List (Fin 8) := allStations.filter fun n => (p.station n).isAxle

/-! ### Station states -/

/-- LISTENING, ACTIVE or ISOLATED: the unit schedules run (R4). -/
def StationState.runs : StationState → Bool
  | .listening => true
  | .active => true
  | .isolated => true
  | .powerup => false
  | .profileLoad => false
  | .inert => false

/-- ACTIVE or ISOLATED. -/
def StationState.drives : StationState → Bool
  | .active => true
  | .isolated => true
  | .listening => false
  | .powerup => false
  | .profileLoad => false
  | .inert => false

/-- The own station runs. -/
def State.runs (s : State) : Bool := s.sc.station.runs

/-- The own station is ACTIVE or ISOLATED. -/
def State.drives (s : State) : Bool := s.sc.station.drives

/-! ### Channels -/

/-- The value a channel presents: none while FAILED or without a value (R19). -/
def Channel.reading (c : Channel) : Option Int :=
  match c.condition with
  | .good => c.value
  | .holding => c.value
  | .failed => none

/-- The value a channel presents while GOOD (R127, R134). -/
def Channel.goodReading (c : Channel) : Option Int :=
  match c.condition with
  | .good => c.value
  | .holding => none
  | .failed => none

/-- Channel record `i` of the own table. -/
def State.channel (s : State) (i : Fin 8) : Channel := s.cs.channels[i]

/-- How many channels the own role scans (R14). -/
def StationRec.channelCount : StationRec → Nat
  | .axle position _ => if position = 1 then 8 else 7
  | .joint _ _ => 2
  | .cab => 2
  | .absent => 0

/-- The clamp range of a role's channel (R14). -/
def channelRange (r : StationRec) (i : Nat) : Int × Int :=
  match r with
  | .axle _ _ =>
    if i ≤ 1 then (0, 1000) else if i ≤ 5 then (0, 1200) else (-6000, 6000)
  | .joint _ _ => if i = 0 then (-16384, 16384) else (0, 1200)
  | .cab => (0, 100)
  | .absent => (0, 0)

/-- The calibration of a role's channel (R14, R186). -/
def Profile.calibration (p : Profile) (r : StationRec) (i : Nat) : ChannelCal :=
  match r with
  | .axle _ _ => p.axleCal.getD i ⟨0, 0⟩
  | .joint _ _ => p.jointCal.getD i ⟨0, 0⟩
  | .cab => p.cabCal.getD i ⟨0, 0⟩
  | .absent => ⟨0, 0⟩

/-! ### Sides -/

/-- The wheel on a side. -/
def PulseCapture.wheel (p : PulseCapture) : Side → Wheel
  | .left => p.left
  | .right => p.right

/-- The corner on a side. -/
def LevelUnit.corner (l : LevelUnit) : Side → Corner
  | .left => l.left
  | .right => l.right

/-- A kneel request or kneel side set names a side (R158). -/
def KneelRequest.names : KneelRequest → Side → Bool
  | .none, _ => false
  | .left, .left => true
  | .left, .right => false
  | .right, .left => false
  | .right, .right => true
  | .both, _ => true

end Sys2Proof.Machine
end

