-- ==== Sys2Proof/Machine/Flags.lean ====
section
/-! DEFINITION. The own STATUS record (R35) and the derived facts of the peer view (R43 to R50), computed from the
peer table and the station's own state when they are read. -/

namespace Sys2Proof.Machine

/-! ### Speeds and STANDSTILL -/

/-- A peer's STATUS record is FRESH at this reading: it has arrived, has not expired, and its age is at most
three STATUS periods (00_scope.md "Freshness", R40; log entry 9). -/
def State.peerFresh (s : State) (n : Fin 8) : Bool :=
  decide ((s.pv.peers[n]).freshness = .fresh) &&
    decide (age s.now (s.pv.peers[n]).arrival ≤ s.sc.prof.statusLimit)

/-- The FRESH STATUS record of a peer. -/
def State.peerStatus (s : State) (n : Fin 8) : Option StatusRec :=
  if n ≠ s.sc.strap ∧ s.peerFresh n = true then (s.pv.peers[n]).status else none

/-- The axle speed a record contributes (R43). -/
def StatusRec.speed? (r : StatusRec) : Option Nat :=
  if r.station.runs then
    match r.part with
    | .axle a => some a.speed
    | .joint _ => none
    | .none => none
  else none

/-- The known axle speeds: the own one at an axle station from entry to LISTENING, and those of the peers (R43). -/
def State.knownSpeeds (s : State) : List Nat :=
  (if s.own.isAxle && s.runs then [s.pc.axleSpeed] else []) ++
    allStations.filterMap fun n => (s.peerStatus n).bind StatusRec.speed?

/-- The reference speed: the highest known axle speed, none if no speed is known (R43). -/
def State.refSpeed (s : State) : Option Nat := s.knownSpeeds.max?

/-- STANDSTILL (R45). -/
def State.standstill (s : State) : Bool :=
  !s.knownSpeeds.isEmpty && s.knownSpeeds.all (· == 0) &&
    lasted s.pv.lastMoving Config.standstillTime s.now

/-! ### The own STATUS record (R35) -/

/-- The STATUS hold field of a hold state: RELEASE_PENDING is written as HELD (R35, R143). -/
def HoldState.field : HoldState → HoldField
  | .off => .off
  | .applying => .applying
  | .held => .held
  | .releasePending => .held
  | .releasing => .releasing

/-- The hold states in which the valve is applied (R132). -/
def HoldState.applied : HoldState → Bool
  | .applying => true
  | .held => true
  | .releasePending => true
  | .off => false
  | .releasing => false

/-- The hold states that count as HELD for the station itself (R46, R158). -/
def HoldState.isHeld : HoldState → Bool
  | .held => true
  | .releasePending => true
  | .applying => false
  | .off => false
  | .releasing => false

/-- The STATUS door state of a door (R26, R179). -/
def Door.field (d : Door) : DoorField :=
  match d.state with
  | .locked => .locked
  | .unlocking => .unlocking
  | .released => .released
  | .opening => .opening
  | .opened => .opened
  | .closing => .closing
  | .reversing => .reversing
  | .locking => .locking
  | .fault => if d.lockedFault then .lockedFault else .fault

/-- A door state that counts as locked (R47). -/
def DoorField.isLocked : DoorField → Bool
  | .locked => true
  | .lockedFault => true
  | .unlocking => false
  | .released => false
  | .opening => false
  | .opened => false
  | .closing => false
  | .reversing => false
  | .locking => false
  | .fault => false

/-- The load formed with both springs at the top of their range (R110). -/
def AxleRec.fullScaleLoad (r : AxleRec) : Nat := 2400 * r.springFactor / 256 + r.unsprung

/-- The load in use: the frozen load while one is held, the load formed last, or the full-scale load (R110, R111). -/
def State.loadInUse (s : State) : Nat :=
  match s.bu.frozen with
  | some l => l
  | none =>
    match s.bu.load with
    | some l => l
    | none =>
      match s.own.axle? with
      | some r => r.fullScaleLoad
      | none => 0

/-- The standstill flag of a STATUS frame: the STANDSTILL fact, or in INERT, where no facts are formed (R39), a
free value (log entry 12). -/
def State.standstillFlag (s : State) : Bool :=
  if s.sc.station = .inert then Config.inertStandstill s.draws else s.standstill

/-- The own AXLE part (R26, R35). -/
def State.axlePart (s : State) : AxlePart where
  speed := s.pc.axleSpeed
  direction := s.pc.direction
  standstill := s.standstillFlag
  frozen := s.bu.frozen.isSome
  slip := decide (s.bu.left.slip ≠ .apply) || decide (s.bu.right.slip ≠ .apply)
  load := s.loadInUse
  hold := s.hu.state.field
  level := s.lu.level
  steer := s.su.state
  command := s.su.command
  doors := s.du.doors.map fun d => ⟨d.number, d.field⟩

/-- The own JOINT part (R26, R35). -/
def State.jointPart (s : State) : JointPart where
  angle := s.ju.angle
  state := s.ju.state
  risk := s.ju.risk
  damping := s.ju.damping

/-- The own role part: that of the station's role, none when the CRC failed or the role is absent (R35, R187). -/
def State.ownPart (s : State) : RolePart :=
  match s.own with
  | .axle _ _ => .axle s.axlePart
  | .joint _ _ => .joint s.jointPart
  | .cab => .none
  | .absent => .none

/-- The own latch set; LEVEL stands for the LEVEL latch or the kneel latch, DOOR for the latch of either owned
door (R35, R177). -/
def State.ownLatches (s : State) : LatchSet where
  steer := s.su.latch
  level := s.lu.levelLatch || s.lu.kneelLatch
  door := s.du.doors.any (·.latch)
  hold := s.hu.latch

/-- The own STATUS record as it stands (R35). -/
def State.ownStatus (s : State) : StatusRec where
  station := s.sc.station
  signature := s.sc.signature
  latches := s.ownLatches
  seq := s.li.statusSeq
  part := s.ownPart

/-- The FRESH STATUS record of a station number: the own record for the own number (R39), a peer's otherwise. -/
def State.freshStatus (s : State) (n : Fin 8) : Option StatusRec :=
  if n = s.sc.strap then (if s.runs then some s.ownStatus else none) else s.peerStatus n

/-! ### Facts of other stations -/

/-- The leading direction, none if unknown (R44). -/
def State.leadingDirection (s : State) : Option Direction :=
  if s.own.isLeading then some s.pc.direction
  else
    match s.sc.prof.leading.bind s.freshStatus with
    | some r =>
      if r.station.runs then
        match r.part with
        | .axle a => some a.direction
        | .joint _ => none
        | .none => none
      else none
    | none => none

/-- Profile agreement: every FRESH peer record carries the own signature (R41). -/
def State.profileAgreement (s : State) : Bool :=
  allStations.all fun n =>
    match s.peerStatus n with
    | some r => r.signature == s.sc.signature
    | none => true

/-- An axle station counts as held since the hold-request start `start` (R46). -/
def State.heldSince (s : State) (start : Time) (n : Fin 8) : Bool :=
  if n = s.sc.strap then s.hu.state.isHeld
  else
    match s.peerStatus n with
    | some r =>
      match r.part with
      | .axle a =>
        decide (a.hold = .held) && decide (0 < ((s.pv.peers[n]).arrival - start).toInt)
      | .joint _ => false
      | .none => false
    | none => false

/-- ALL_HELD_SINCE (R46). -/
def State.allHeldSince (s : State) : Bool :=
  match s.pv.holdStart with
  | some start => s.sc.prof.axles.all (s.heldSince start)
  | none => false

/-- A door of the profile's door table is seen locked (R47). That one locked entry is enough, should a list name the door
twice, is the model's choice (log entry 36). -/
def State.doorSeenLocked (s : State) (d : DoorInfo) : Bool :=
  if d.owner = s.sc.strap then s.du.doors.any fun e => e.number == d.number && e.field.isLocked
  else
    match s.peerStatus d.owner with
    | some r =>
      match r.part with
      | .axle a => a.doors.any fun e => e.number == d.number && e.state.isLocked
      | .joint _ => false
      | .none => false
    | none => false

/-- ALL_DOORS_LOCKED (R47). -/
def State.allDoorsLocked (s : State) : Bool := s.sc.prof.doors.all s.doorSeenLocked

/-- The joint part of joint station `n`, when its record is FRESH and ACTIVE or ISOLATED (R50). -/
def State.jointRecord (s : State) (n : Fin 8) : Option JointPart :=
  match s.freshStatus n with
  | some r =>
    if r.station.drives then
      match r.part with
      | .joint j => some j
      | .axle _ => none
      | .none => none
    else none
  | none => none

/-- The angle of joint station `n`, none if unknown (R50). -/
def State.jointAngle (s : State) (n : Fin 8) : Option Int :=
  match s.jointRecord n with
  | some j => if j.state = .fault then none else some j.angle
  | none => none

/-- The risk of joint station `n`, none if unknown (R50). -/
def State.jointRisk (s : State) (n : Fin 8) : Option Bool := (s.jointRecord n).map (·.risk)

/-! ### The effective demand (R48) -/

/-- The source of the effective demand. -/
inductive Source where
  | fresh
  | grace
  | fallback
deriving DecidableEq, Repr

/-- The effective demand: the source and the contents. -/
structure EffectiveDemand where
  source : Source
  brake : Nat
  quality : Quality
  hold : HoldRequest
  kneel : KneelRequest
  release : List Nat
  opens : List Nat
  clear : Option (BitVec 8)
deriving DecidableEq, Repr

/-- The station is the CAB. -/
def State.isCab (s : State) : Bool := decide (s.own = .cab)

/-- The DEMAND record's freshness at this reading (R42; log entry 9). The CAB's own entry does not age (R39). -/
def State.demandFreshness (s : State) : Freshness :=
  match s.pv.demand.freshness with
  | .never => .never
  | .stale => .stale
  | .fresh =>
    if s.isCab || decide (age s.now s.pv.demand.arrival ≤ Config.demandLimit) then .fresh else .stale

/-- The source at this reading (R48). A stale episode that has begun is beyond the grace time. -/
def State.demandSource (s : State) : Source :=
  match s.demandFreshness with
  | .fresh => .fresh
  | .never => .fallback
  | .stale =>
    if s.pv.episode then .fallback
    else if age s.now s.pv.demand.arrival ≤ Config.graceLimit then .grace else .fallback

/-- The station owns a door of this number and its own state is LOCKED (R49). -/
def State.ownsLocked (s : State) (d : Nat) : Bool :=
  s.du.doors.any fun e => e.number == d && decide (e.state = .locked)

/-- The DEMAND record held: none while NEVER (R39). -/
def State.demandRecord (s : State) : Option DemandRec :=
  match s.pv.demand.freshness with
  | .never => none
  | .fresh => s.pv.demand.record
  | .stale => s.pv.demand.record

/-- What the frozen release list is, or would be if the episode began now (R49; log entry 10). -/
def State.frozenList (s : State) : List Nat :=
  if s.pv.episode then s.pv.frozen
  else
    match s.demandRecord with
    | some r => r.release.filter fun d => !s.ownsLocked d
    | none => []

/-- The contents of a FALLBACK source (R48). -/
def State.fallbackDemand (s : State) : EffectiveDemand where
  source := .fallback
  brake := if s.standstill then 0 else s.sc.prof.fallback
  quality := .fallback
  hold := .hold
  kneel := .none
  release := s.frozenList
  opens := []
  clear := s.demandRecord.map (·.clear)

/-- The contents of a FRESH or GRACE source: the record's fields (R48). -/
def DemandRec.effective (r : DemandRec) (source : Source) : EffectiveDemand where
  source := source
  brake := r.brake
  quality := r.quality
  hold := r.hold
  kneel := r.kneel
  release := r.release
  opens := r.opens
  clear := some r.clear

/-- The effective demand (R48). -/
def State.effectiveDemand (s : State) : EffectiveDemand :=
  match s.demandSource, s.demandRecord with
  | .fresh, some r => r.effective .fresh
  | .grace, some r => r.effective .grace
  | _, _ => s.fallbackDemand

end Sys2Proof.Machine
end

