-- ==== Sys2Proof/Machine/Ops.lean ====
section
/-! DEFINITION. The operations the commands share: how a command is taken, the event summary, the transmit set,
the schedules, the values units take at a reset and on entry to INERT, the entries to LISTENING and INERT,
and the clear event. -/

namespace Sys2Proof.Machine

/-! ### Taking a command -/

/-- `dt` microseconds pass: local time counts while the part is powered (R1). -/
def State.elapse (dt : Nat) (s : State) : State :=
  if s.powered then { s with now := later s.now dt } else s

/-- A command taken `dt` µs after the one before it: if the part is powered and the command's condition holds, it
has its effect; otherwise nothing but local time changes (log entry 3). -/
def runWhen (ready : State → Bool) (effect : State → State) (dt : Nat) (s : State) :
    Host.Outcome State Fault Refusal :=
  .next (if (s.elapse dt).powered && ready (s.elapse dt) then effect (s.elapse dt) else s.elapse dt)

/-- The condition of a command that is always met. -/
def State.always (_ : State) : Bool := true

/-! ### The event summary (R36) -/

/-- The code of an event kind (R26). -/
def EventKind.code : EventKind → Nat
  | .pathOverrun => 1
  | .pathLag => 2
  | .steerFault => 3
  | .slipActive => 4
  | .holdFault => 5
  | .fallbackStop => 6
  | .reverseStop => 7
  | .jackknifeRisk => 8
  | .jointEnd => 9
  | .levelTimeout => 10
  | .kneelAborted => 11
  | .doorLockFault => 12
  | .doorDriveFault => 13
  | .doorObstructed => 14
  | .doorEventOverrun => 15
  | .channelHold => 16
  | .channelFail => 17
  | .snapshotOverrun => 18
  | .profileClamped => 19
  | .profileMismatch => 20
  | .unlistedStation => 21
  | .duplicateStation => 22
  | .malformedFrame => 23
  | .linkLoss => 24

/-- The telltale group of an event kind (R26). -/
def EventKind.group : EventKind → Group
  | .pathOverrun => .steer
  | .pathLag => .steer
  | .steerFault => .steer
  | .slipActive => .brake
  | .holdFault => .brake
  | .fallbackStop => .brake
  | .reverseStop => .brake
  | .jackknifeRisk => .joint
  | .jointEnd => .joint
  | .levelTimeout => .level
  | .kneelAborted => .level
  | .doorLockFault => .door
  | .doorDriveFault => .door
  | .doorObstructed => .door
  | .doorEventOverrun => .door
  | .channelHold => .station
  | .channelFail => .station
  | .snapshotOverrun => .station
  | .profileClamped => .station
  | .profileMismatch => .station
  | .unlistedStation => .station
  | .duplicateStation => .station
  | .malformedFrame => .station
  | .linkLoss => .station

/-- Add a kind to a summary, kept in increasing code; a kind already in it changes nothing (R36). -/
def insertKind (k : EventKind) : List EventKind → List EventKind
  | [] => [k]
  | x :: xs =>
    if k.code < x.code then k :: x :: xs
    else if k = x then x :: xs
    else x :: insertKind k xs

/-- Raise an event kind (R36). -/
def State.raise (k : EventKind) (s : State) : State :=
  { s with li := { s.li with summary := insertKind k s.li.summary } }

/-- Raise an event kind if a condition holds. -/
def State.raiseIf (b : Bool) (k : EventKind) (s : State) : State := if b then s.raise k else s

/-! ### The transmit set (R32) -/

/-- A kind is pending. -/
def TransmitSet.has (t : TransmitSet) : FrameKind → Bool
  | .status => t.status
  | .path => t.path
  | .demand => t.demand
  | .notice => t.notice

/-- A transmit set with a kind pending or not. -/
def TransmitSet.set (t : TransmitSet) (b : Bool) : FrameKind → TransmitSet
  | .status => { t with status := b }
  | .path => { t with path := b }
  | .demand => { t with demand := b }
  | .notice => { t with notice := b }

/-- Request a frame: a kind already pending stays pending once (R32). -/
def State.request (k : FrameKind) (s : State) : State :=
  { s with li := { s.li with pending := s.li.pending.set true k } }

/-! ### Schedules (R4) -/

/-- The schedules at the entry to LISTENING: each unit that runs in the station's role first updates one period
later; the first scan begins at the entry itself, so the scan schedule stands one period on (R15). -/
def startSchedules (own : StationRec) (p : Profile) (ownsDoors : Bool) (now : Time) : Schedules where
  speed := if own.isAxle then some (later now Config.speedPeriod) else none
  scan := some (later now Config.scanPeriod)
  status := some (later now p.statusPeriod)
  notice := some (later now p.noticePeriod)
  steering := if own.isFollowing then some (later now Config.steeringPeriod) else none
  joint := if own.isJoint then some (later now Config.jointPeriod) else none
  brake := if own.isAxle then some (later now Config.brakePeriod) else none
  cab := if own = .cab then some (later now Config.cabPeriod) else none
  hold := if own.isAxle then some (later now Config.holdPeriod) else none
  level := if own.isAxle then some (later now Config.levelPeriodStill) else none
  door := if own.isAxle && ownsDoors then some (later now Config.doorPeriod) else none

/-- The schedules in INERT: the STATUS schedule alone (R4, R191). -/
def inertSchedules (p : Profile) (now : Time) : Schedules :=
  { Schedules.stopped with status := some (later now p.statusPeriod) }

/-! ### Selecting a channel (R15) -/

/-- A channel is selected: its conversion begins with the trial at mid-scale (R15). -/
def Conversion.select (i : Fin 8) : Conversion := ⟨i, Config.midScale⟩

/-- The conversion a scan begins with: that of the role's lowest channel (R15). -/
def firstConversion (own : StationRec) : Option Conversion :=
  if own.channelCount = 0 then none else some (Conversion.select 0)

/-! ### Doors at a reset (R182) -/

/-- A door record at a reset: the state by the lock switch, the obstruction latch kept, and an OPEN door that goes to FAULT held
for the clear event, as is a door so held already (R182; log entry 40). -/
def resetDoor (locked : Bool) (d : Door) : Door where
  number := d.number
  side := d.side
  state := if locked then .locked else .fault
  count := 0
  latch := d.latch
  deadline := none
  dwellStart := none
  driveStop := none
  openRequest := false
  lockedFault := false
  heldFault := !locked && (d.heldFault || decide (d.state = .opened))
  lockActuator := false
  drive := .off

/-- Act on the first door with the first level, on the second with the second. -/
def withLocks (f : Bool → Door → Door) (l : LockLevels) : List Door → List Door
  | [] => []
  | [d] => [f l.first d]
  | d :: e :: rest => f l.first d :: f l.second e :: rest.map (f false)

/-- The door table of station `n`: its listed doors in increasing number, at most two (R35, R187), at their power-on values. -/
def doorTable (p : Profile) (n : Fin 8) (locks : LockLevels) : List Door :=
  withLocks resetDoor locks <|
    ((p.doors.filter fun d => decide (d.owner = n)).take 2).map fun d =>
      { number := d.number, side := d.side, state := .locked, count := 0, latch := false,
        deadline := none, dwellStart := none, driveStop := none, openRequest := false,
        lockedFault := false, heldFault := false, lockActuator := false, drive := .off }

/-- The frozen release list loses the doors whose own state is LOCKED (R49). -/
def State.pruneFrozen (s : State) : State :=
  { s with pv := { s.pv with frozen := s.pv.frozen.filter fun d => !s.ownsLocked d } }

/-! ### Restart (R185) -/

/-- The line interface at a restart: its reset values, while the line keeps its level (R25). -/
def LineInterface.restart (l : LineInterface) : LineInterface := { LineInterface.reset with lineActive := l.lineActive }

/-- Every unit takes its restart values; the profile, the strap, local time, the latches, the clear count and
the check result are kept (R5, R21, R33, R36, R39, R59, R62, R93, R107, R125, R131, R146, R165, R182, R185, R192). -/
def restartValues (locks : LockLevels) (s : State) : State :=
  { s with
    sc := { s.sc with station := .powerup, heard := false, lastPeer := none, listenStart := none, restartLow := true }
    sched := Schedules.stopped
    pc := PulseCapture.reset
    cs := Scan.reset
    li := s.li.restart
    pv := PeerView.reset
    pu := PathUnit.reset s.sc.prof.pathStep
    su := SteeringUnit.reset s.su.latch
    ju := JointUnit.reset
    bu := BrakeUnit.reset
    hu := HoldUnit.reset s.hu.latch
    lu := { LevelUnit.reset s.sc.prof.rideHeight s.lu.levelLatch s.lu.kneelLatch with restartFault := s.lu.levelLatch }
    du := ⟨withLocks resetDoor locks s.du.doors, [], locks⟩
    cu := CabUnit.reset s.cu.clearCount true }

/-- A restart taken in INERT: the line interface's items are cleared and the STATUS schedule stands until the restart
input goes high (R25, R33, R185); the peer view and the cab unit take what they hold after a restart (R39, R51, R131,
R167, R192); every other unit keeps the values of its entry to INERT (R191; log entry 39). -/
def restartInert (s : State) : State :=
  { s with
    sc := { s.sc with restartLow := true }
    sched := Schedules.stopped
    li := s.li.restart
    pv := PeerView.reset
    cu := CabUnit.reset s.cu.clearCount true }

/-! ### Telltales (R192) -/

/-- All six telltales lit, last-notice times kept. -/
def Telltales.allLit (t : Telltales) : Telltales where
  steer := { t.steer with lit := true }
  brake := { t.brake with lit := true }
  joint := { t.joint with lit := true }
  level := { t.level with lit := true }
  door := { t.door with lit := true }
  station := { t.station with lit := true }

/-! ### Entering INERT (R191) -/

/-- The hold unit on entry to INERT: at an axle station the valve is applied and the state HELD, and the confirm start
is cleared as the unit leaves APPLYING (R134, R145); at any other station the unit holds its reset values (R132; log
entry 28). -/
def HoldUnit.enterInert (axle : Bool) (h : HoldUnit) : HoldUnit :=
  if axle then { h with state := .held, confirmStart := none, valve := false } else HoldUnit.reset h.latch

/-- Every unit takes the values of its entry to INERT; every latch keeps its value
(R5, R21, R52, R62, R92, R106, R125, R132, R145, R164, R182, R192). -/
def inertUnits (locks : LockLevels) (s : State) : State :=
  { s with
    pc := PulseCapture.reset
    cs := Scan.reset
    pu := PathUnit.reset s.sc.prof.pathStep
    su := SteeringUnit.reset s.su.latch
    ju := JointUnit.reset
    bu := BrakeUnit.reset
    hu := s.hu.enterInert s.own.isAxle
    lu := LevelUnit.reset s.sc.prof.rideHeight s.lu.levelLatch s.lu.kneelLatch
    du := { s.du with doors := withLocks resetDoor locks s.du.doors, queue := [] }
    cu := { s.cu with telltales := s.cu.telltales.allLit } }

/-- The final NOTICE is requested if the summary is not empty or a NOTICE is pending (R38). -/
def State.requestFinalNotice (s : State) : State :=
  if !s.li.summary.isEmpty || s.li.pending.notice then s.request .notice else s

/-- Entry to INERT: the units' values, STATUS requested at the moment of entry and on its schedule, the final NOTICE (R38, R191). -/
def enterInert (locks : LockLevels) (s : State) : State :=
  let t := inertUnits locks s
  let t := { t with
    sc := { t.sc with station := .inert, listenStart := none }
    sched := inertSchedules t.sc.prof t.now }
  (t.request .status).requestFinalNotice

/-- The receive half starts waiting for idle line (R25). -/
def State.startIdleWait (s : State) : State :=
  { s with li := { s.li with
      mode := .waiting s.now, startBit := none, frame := none, quiet := none, complete := none } }

/-! ### Entering LISTENING (R189) -/

/-- Entry to LISTENING: the heard flag is cleared and the window starts (R189), the schedules start (R4), the first
scan begins (R15), the receive half starts its wait (R25), the leading axle's steer state becomes LEADING (R70), and at
an axle station the apply start is set (R132, R145) and the own speed becomes known (R5, R45). -/
def enterListening (s : State) : State :=
  let t := s.startIdleWait
  { t with
    sc := { t.sc with station := .listening, heard := false, listenStart := some t.now }
    sched := startSchedules t.own t.sc.prof (!t.du.doors.isEmpty) t.now
    cs := { t.cs with conv := firstConversion t.own }
    pv := { t.pv with lastMoving := if t.own.isAxle then some t.now else t.pv.lastMoving }
    su := if t.own.isLeading then { t.su with state := .leading } else t.su
    hu := if t.own.isAxle then { t.hu with applyStart := some t.now } else t.hu }

/-! ### The clear event (R51) -/

/-- A clear event at a door: a FAULT door goes to LOCKED or LOCKING by its lock switch; a set obstruction latch is
cleared with its count (R180; log entry 20). A door held for the clear event is held no longer (R182). -/
def clearDoor (now : Time) (locked : Bool) (d : Door) : Door :=
  let d := if d.latch then { d with latch := false, count := 0 } else d
  match d.state with
  | .fault =>
    if locked then
      { d with state := .locked, count := 0, deadline := none, lockedFault := false, heldFault := false,
               lockActuator := false, drive := .off }
    else
      { d with state := .locking, deadline := some (later now Config.lockDeadline), lockedFault := false, heldFault := false,
               lockActuator := false, drive := .off }
  | .locked => d
  | .unlocking => d
  | .released => d
  | .opening => d
  | .opened => d
  | .closing => d
  | .reversing => d
  | .locking => d

/-- A clear event at the hold unit: the latch is cleared and, in APPLYING, the apply timing begins again (R142). -/
def HoldUnit.clear (now : Time) (h : HoldUnit) : HoldUnit :=
  if h.latch then
    { h with latch := false, applyStart := if h.state = .applying then some now else h.applyStart }
  else h

/-- A clear event reaches every latch owner: STEER (R91), HOLD (R142), LEVEL (R156) and the doors (R180). -/
def clearEvent (locks : LockLevels) (s : State) : State :=
  State.pruneFrozen
    { s with
      su := { s.su with latch := false }
      hu := s.hu.clear s.now
      lu := { s.lu with levelLatch := false }
      du := { s.du with doors := withLocks (clearDoor s.now) locks s.du.doors } }

/-- The clear-count rule, applied to the count of a DEMAND just accepted or written (R51). -/
def clearCountRule (locks : LockLevels) (count : BitVec 8) (s : State) : State :=
  let t := { s with pv := { s.pv with actedClear := some count } }
  match s.pv.actedClear with
  | none => t
  | some c => if c = count then s else clearEvent locks t

/-! ### The kneel phase and the frozen load (R111) -/

/-- The kneel phases the load is frozen in (R111). -/
def KneelPhase.freezes : KneelPhase → Bool
  | .none => false
  | .kneeling => true
  | .knelt => true
  | .raising => true

/-- The kneel phase is KNEELING or KNELT. -/
def KneelPhase.lowered : KneelPhase → Bool
  | .none => false
  | .kneeling => true
  | .knelt => true
  | .raising => false

/-- Set the level unit, freezing the load when the kneel phase enters the set of R111 and letting it go when it leaves. -/
def State.setLevel (lu : LevelUnit) (s : State) : State :=
  { s with
    lu := lu
    bu :=
      if !s.lu.kneel.freezes && lu.kneel.freezes then { s.bu with frozen := some s.loadInUse }
      else if s.lu.kneel.freezes && !lu.kneel.freezes then { s.bu with frozen := none }
      else s.bu }

end Sys2Proof.Machine
end

