-- ==== Sys2Proof/Machine/Brake.lean ====
section
/-! DEFINITION. Service braking and wheel slip (06, R109 to R126): BRAKE_UPDATE. -/

namespace Sys2Proof.Machine

/-! ### The load (R110, R111) -/

/-- The load from the two spring pressures (R110). -/
def springLoad (r : AxleRec) (left right : Int) : Nat :=
  (truncDiv ((left + right) * r.springFactor) 256 + r.unsprung).toNat

/-- The load item after a brake update: kept while a frozen load is held or a spring channel presents no value (R110, R111). -/
def State.formLoad (s : State) (r : AxleRec) : Option Nat :=
  match s.bu.frozen, (s.channel 2).reading, (s.channel 3).reading with
  | none, some l, some p => some (springLoad r l p)
  | _, _, _ => s.bu.load

/-! ### From demand to pressure (R112 to R116) -/

/-- Some joint of the profile has a known risk of RISK (R113). -/
def State.anyJointRisk (s : State) : Bool := s.sc.prof.joints.any fun n => s.jointRisk n == some true

/-- The reverse-stop standing is set at this update (R113). -/
def State.reverseStopSets (s : State) : Bool :=
  !s.bu.reverseStop && !s.standstill && decide (s.leadingDirection = some .reverse) && s.anyJointRisk

/-- The reverse-stop standing after an update (R113). -/
def State.reverseStopAfter (s : State) : Bool :=
  if s.bu.reverseStop then !s.standstill else s.reverseStopSets

/-- The demanded deceleration a in cm/s² (R112). -/
def State.deceleration (s : State) (standing : Bool) : Nat :=
  if standing then max s.effectiveDemand.brake s.sc.prof.reverseStop else s.effectiveDemand.brake

/-- The unstretched axle demand in kPa (R114). -/
def baseDemand (r : AxleRec) (load a : Nat) : Int := roundDiv ((load * a / 100 : Nat) : Int) r.brakeGain

/-- The stretches of the joints ahead of the axle that show RISK (R115). -/
def State.stretches (s : State) (r : AxleRec) : List Nat :=
  ((s.sc.prof.jointsOf r).filter fun j => s.jointRisk j.1 == some true).map fun j => j.2.stretch

/-- The demand after the stretch (R115). -/
def State.stretched (s : State) (r : AxleRec) (p : Int) : Int :=
  match s.leadingDirection, (s.stretches r).max? with
  | some .forward, some k => roundDiv (p * ((256 + k : Nat) : Int)) 256
  | _, _ => p

/-- The axle demand P_d (R114 to R116), with the load in use. -/
def State.axleDemand (s : State) (r : AxleRec) (load a : Nat) : Nat :=
  (clampInt 0 s.sc.prof.pMax (s.stretched r (baseDemand r load a))).toNat

/-! ### Wheel slip (R117 to R122) -/

/-- Slip control is active (R117). -/
def State.slipControl (s : State) (a : Nat) : Bool :=
  match s.refSpeed with
  | some v => decide (Config.slipSpeed ≤ v) && decide (0 < a) && !s.hu.state.applied
  | none => false

/-- The slip of a wheel in ‰ (R117). -/
def slipOf (reference wheel : Nat) : Int := truncDiv (((reference : Int) - wheel) * 1000) reference

/-- A wheel goes to, or stays in, RELEASE with its target lowered by one release step (R118, R119). -/
def BrakeWheel.toRelease (w : BrakeWheel) : BrakeWheel :=
  { w with slip := .release, target := w.target - Config.releaseStep, holdGood := 0 }

/-- One reapply step, into APPLY when the target reaches P_d (R121). -/
def BrakeWheel.reapplyStep (w : BrakeWheel) (demand : Nat) : BrakeWheel :=
  if demand ≤ w.target + Config.reapplyStep then { w with slip := .apply, target := demand, holdGood := 0 }
  else { w with slip := .reapply, target := w.target + Config.reapplyStep, holdGood := 0 }

/-- A wheel's step while slip control is active (R118 to R121). -/
def BrakeWheel.slipStep (w : BrakeWheel) (demand : Nat) (slip : Int) : BrakeWheel :=
  match w.slip with
  | .apply => if Config.slipHigh < slip then w.toRelease else { w with target := demand }
  | .release =>
    if slip < Config.slipLow then { w with slip := .holdP, holdGood := 0 } else w.toRelease
  | .holdP =>
    if Config.slipHigh < slip then w.toRelease
    else if Config.slipLow ≤ slip then { w with holdGood := 0 }
    else if w.holdGood + 1 < 3 then { w with holdGood := w.holdGood + 1 }
    else w.reapplyStep demand
  | .reapply => if Config.slipHigh < slip then w.toRelease else w.reapplyStep demand

/-- A wheel after an update: its slip step, or APPLY at P_d while slip control is inactive; then the target is lowered to
P_d if it stands above, and written to the set-point (R122). -/
def BrakeWheel.update (w : BrakeWheel) (demand : Nat) (slip : Option Int) : BrakeWheel :=
  let stepped :=
    match slip with
    | some x => w.slipStep demand x
    | none => { w with slip := .apply, target := demand, holdGood := 0 }
  { stepped with target := min stepped.target demand, setPoint := min stepped.target demand }

/-- The wheel enters RELEASE from APPLY, which raises SLIP_ACTIVE (R118, R123). -/
def slipRaised (before after : BrakeWheel) : Bool :=
  decide (before.slip = .apply) && decide (after.slip = .release)

/-- The slip of the wheel on a side, none while slip control is inactive (R117). -/
def State.wheelSlip (s : State) (a : Nat) (side : Side) : Option Int :=
  if s.slipControl a then s.refSpeed.map fun v => slipOf v (s.pc.wheel side).speed else none

/-! ### The update (R109) -/

/-- The load step of every brake update. -/
def State.withLoad (s : State) (r : AxleRec) : State := { s with bu := { s.bu with load := s.formLoad r } }

/-- Steps 3 to 6 of R109, in ACTIVE and ISOLATED, on the state with its load formed. -/
def brakeStep (r : AxleRec) (s : State) : State :=
  let standing := s.reverseStopAfter
  let a := s.deceleration standing
  let demand := s.axleDemand r s.loadInUse a
  let left := s.bu.left.update demand (s.wheelSlip a .left)
  let right := s.bu.right.update demand (s.wheelSlip a .right)
  let t := { s with bu := { s.bu with reverseStop := standing, demand := demand, left := left, right := right } }
  let t := t.raiseIf s.reverseStopSets .reverseStop
  t.raiseIf (slipRaised s.bu.left left || slipRaised s.bu.right right) .slipActive

/-- The brake update (R109), and its next time (R4). In LISTENING it forms the load alone. -/
def brakeUpdate (s : State) : State :=
  match s.own.axle? with
  | some r =>
    let t := s.withLoad r
    let t := if s.drives then brakeStep r t else t
    { t with sched := { t.sched with brake := some (later s.now Config.brakePeriod) } }
  | none => s

/-- A brake update is due (R109). -/
def State.brakeDue (s : State) : Bool := s.runs && s.own.isAxle && passed s.sched.brake s.now

/-- BRAKE_UPDATE (R109). -/
def execBrakeUpdate (dt : Nat) (s : State) : Host.Outcome State Fault Refusal :=
  runWhen State.brakeDue brakeUpdate dt s

end Sys2Proof.Machine
end

