-- ==== Sys2Proof/Machine/Cab.lean ====
section
/-! DEFINITION. The cab unit (06 R127 to R131, 07 R148 and R149, 08 R167, 09 R184, 10 R192): CAB_UPDATE and
LAMP_TEST_END. -/

namespace Sys2Proof.Machine

/-! ### The pedal vote (R127 to R129) -/

/-- The chosen travel and the quality (R128). -/
def pedalVote (a b : Option Int) : Option Int × Quality :=
  match a, b with
  | some x, some y => (some (if (x - y).natAbs ≤ 10 then truncDiv (x + y) 2 else max x y), .both)
  | some x, none => (some x, .one)
  | none, some y => (some y, .one)
  | none, none => (none, .fallback)

/-- The brake demand in cm/s² from a chosen travel, or without one (R129). -/
def cabDemand (p : Profile) (standstill : Bool) (travel : Option Int) : Nat :=
  match travel with
  | some t => if 5 < t then (truncDiv (800 * (t - 5)) 95).toNat else 0
  | none => if standstill then 0 else p.fallback

/-- The vote of a cab update: a channel is usable while it is GOOD with a value (R127). -/
def State.vote (s : State) : Option Int × Quality :=
  pedalVote (s.channel 0).goodReading (s.channel 1).goodReading

/-! ### The requests (R148, R149, R167, R184) -/

/-- The hold request follows the hold switch (R148). -/
def cabHold (i : CabInputs) : HoldRequest := if i.holdSwitch then .hold else .none

/-- The kneel button levels. -/
def cabButtons (i : CabInputs) : ButtonLevels := ⟨i.kneelLeft, i.kneelRight, i.raise⟩

/-- The presses at an update: pressed now and released at the previous update; none at the first reading (R167). -/
def pressesOf (before : Option ButtonLevels) (now : ButtonLevels) : ButtonLevels :=
  match before with
  | some b => ⟨now.left && !b.left, now.right && !b.right, now.raise && !b.raise⟩
  | none => ⟨false, false, false⟩

/-- The kneel-request latch after the presses (R167). -/
def kneelAfter (latch : KneelRequest) (p : ButtonLevels) : KneelRequest :=
  if p.raise then .none
  else if p.left && p.right then .both
  else if p.left then
    match latch with
    | .none => .left
    | .left => .left
    | .right => .both
    | .both => .both
  else if p.right then
    match latch with
    | .none => .right
    | .right => .right
    | .left => .both
    | .both => .both
  else latch

/-- The kneel-request latch after an update: NONE while the hold request is NONE (R149, R167). -/
def CabUnit.kneelLatchAfter (c : CabUnit) (i : CabInputs) : KneelRequest :=
  match cabHold i with
  | .none => .none
  | .hold => kneelAfter c.kneelLatch (pressesOf c.buttons (cabButtons i))

/-- The listed doors whose switch reads on, in increasing number; bit `d - 1` is door `d`'s switch (R184). -/
def Profile.doorsOn (p : Profile) (switches : BitVec 8) : List Nat :=
  (p.doors.map (·.number)).filter fun d => switches.getLsbD (d - 1)

/-- A door list of the DEMAND record: empty while the hold request is NONE (R149, R184). -/
def Profile.doorList (p : Profile) (i : CabInputs) (switches : BitVec 8) : List Nat :=
  match cabHold i with
  | .none => []
  | .hold => p.doorsOn switches

/-! ### The acknowledge button (R130, R131) -/

/-- An update counts a press: pressed now, released at the previous update, and read since the last restart (R130, R131;
log entry 19). -/
def CabUnit.pressed (c : CabUnit) (level : Bool) : Bool := level && !c.ack && !c.ackUnread

/-- The clear count and the stored level after an update (R130). -/
def CabUnit.acknowledge (c : CabUnit) (level : Bool) : CabUnit :=
  { c with clearCount := if c.pressed level then c.clearCount + 1 else c.clearCount, ack := level, ackUnread := false }

/-! ### The DEMAND record (R130) -/

/-- The cab unit's items after the vote and the buttons of an update in ACTIVE or ISOLATED (R128, R129, R167). -/
def State.votedCab (s : State) (i : CabInputs) : CabUnit :=
  { s.cu with
    chosen := s.vote.1
    quality := s.vote.2
    brake := cabDemand s.sc.prof s.standstill s.vote.1
    kneelLatch := s.cu.kneelLatchAfter i
    buttons := some (cabButtons i) }

/-- The DEMAND record formed from the cab unit's items; its sequence is the one the next DEMAND carries (R130). -/
def State.formedDemand (s : State) (i : CabInputs) : DemandRec where
  seq := s.li.demandSeq
  brake := s.cu.brake
  quality := s.cu.quality
  hold := cabHold i
  kneel := s.cu.kneelLatch
  clear := s.cu.clearCount
  release := s.sc.prof.doorList i i.release
  opens := s.sc.prof.doorList i i.opens

/-- The own DEMAND entry is written, which is a clear-count reading, and a DEMAND frame is requested (R39, R51, R130).
The CAB owns no door, so no lock switch is read. -/
def writeDemand (r : DemandRec) (s : State) : State :=
  State.request .demand
    (clearCountRule ⟨false, false⟩ r.clear { s with pv := { s.pv with demand := ⟨some r, s.now, .fresh⟩ } })

/-- The part of an update that is made in ACTIVE and ISOLATED alone (R127, R130). -/
def cabDrive (i : CabInputs) (s : State) : State :=
  let t := { s with cu := s.votedCab i }
  writeDemand (t.formedDemand i) t

/-! ### Telltales (R192) -/

/-- A latch of the group stands in a latch set (R192). -/
def LatchSet.shows (l : LatchSet) : Group → Bool
  | .steer => l.steer
  | .brake => l.hold
  | .level => l.level
  | .door => l.door
  | .joint => false
  | .station => false

/-- A FRESH STATUS of any station state shows a latch of the group (R192). -/
def State.latchShown (s : State) (g : Group) : Bool :=
  allStations.any fun n =>
    match s.freshStatus n with
    | some r => r.latches.shows g
    | none => false

/-- The last notice of a row is at most 2,000,000 µs old (R192). -/
def Telltale.recent (t : Telltale) (now : Time) : Bool :=
  match t.last with
  | some at_ => decide (age now at_ ≤ Config.lampTime)
  | none => false

/-- A row of the table judged at a cab update (R192). -/
def State.judged (s : State) (g : Group) (t : Telltale) : Telltale :=
  { t with lit := t.recent s.now || s.latchShown g }

/-- The whole table judged at a cab update (R192). -/
def State.judgedTable (s : State) : Telltales where
  steer := s.judged .steer s.cu.telltales.steer
  brake := s.judged .brake s.cu.telltales.brake
  joint := s.judged .joint s.cu.telltales.joint
  level := s.judged .level s.cu.telltales.level
  door := s.judged .door s.cu.telltales.door
  station := s.judged .station s.cu.telltales.station

/-- The lamp test has ended (R192; log entry 31). -/
def State.lampEnded (s : State) : Bool := s.cu.lampOver || lasted s.cu.lampStart Config.lampTime s.now

/-- The telltale step of a cab update: the table is judged once the lamp test has ended (R192). -/
def telltaleStep (s : State) : State :=
  if s.lampEnded then { s with cu := { s.cu with telltales := s.judgedTable, lampOver := true } } else s

/-! ### The commands -/

/-- The cab update (R127): the acknowledge button, the DEMAND record in ACTIVE and ISOLATED, the telltales, and its next
time (R4). -/
def cabUpdate (i : CabInputs) (s : State) : State :=
  let t := { s with cu := s.cu.acknowledge i.acknowledge }
  let t := if s.drives then cabDrive i t else t
  let t := telltaleStep t
  { t with sched := { t.sched with cab := some (later s.now Config.cabPeriod) } }

/-- A cab update is due (R127). -/
def State.cabDue (s : State) : Bool := s.runs && s.isCab && passed s.sched.cab s.now

/-- The lamp test runs and its 2,000,000 µs are over (R192). -/
def State.lampDue (s : State) : Bool :=
  s.isCab && !s.cu.lampOver && lasted s.cu.lampStart Config.lampTime s.now

/-- The lamp test ends: the next cab update judges the table (R192). -/
def lampTestEnd (s : State) : State := { s with cu := { s.cu with lampOver := true } }

/-- CAB_UPDATE (R127). -/
def execCabUpdate (dt : Nat) (inputs : CabInputs) (s : State) : Host.Outcome State Fault Refusal :=
  runWhen State.cabDue (cabUpdate inputs) dt s

/-- LAMP_TEST_END (R192). -/
def execLampTestEnd (dt : Nat) (s : State) : Host.Outcome State Fault Refusal :=
  runWhen State.lampDue lampTestEnd dt s

end Sys2Proof.Machine
end

