-- ==== Sys2Proof/Machine/Frame.lean ====
section
/-! DEFINITION. The frames of the chassis line (02, R22 to R29): the CRC, the four layouts of R26 written and read, and
the ordered checks of R27. -/

namespace Sys2Proof.Machine

/-! ### CRC (R24) -/

/-- One bit of the CRC register: shift left, with the generator x^16 + x^12 + x^5 + 1 when a one leaves. -/
def crcBit (crc : BitVec 16) : BitVec 16 := if crc.msb then (crc <<< 1) ^^^ 0x1021 else crc <<< 1

/-- One byte entering the CRC register, most significant bit first. -/
def crcByte (crc : BitVec 16) (b : Byte) : BitVec 16 :=
  crcBit <| crcBit <| crcBit <| crcBit <| crcBit <| crcBit <| crcBit <| crcBit (crc ^^^ (b ++ (0 : BitVec 8)))

/-- The CRC of a list of bytes; the register starts at all ones (R24). -/
def crc16 (bytes : List Byte) : BitVec 16 := bytes.foldl crcByte 0xFFFF

/-! ### Codes (R26) -/

/-- The code of a frame kind. -/
def kindCode : FrameKind → Nat
  | .status => 1
  | .path => 2
  | .demand => 3
  | .notice => 4

/-- The kind of a code. -/
def frameKindOf : Nat → Option FrameKind
  | 1 => some .status
  | 2 => some .path
  | 3 => some .demand
  | 4 => some .notice
  | _ => none

/-- The code of a station state; the two states in which nothing is sent have none, and read 0. -/
def StationState.code : StationState → Nat
  | .listening => 0
  | .active => 1
  | .isolated => 2
  | .inert => 3
  | .powerup => 0
  | .profileLoad => 0

/-- The station state of a code. -/
def stationStateOf : Nat → Option StationState
  | 0 => some .listening
  | 1 => some .active
  | 2 => some .isolated
  | 3 => some .inert
  | _ => none

/-- The code of a hold field. -/
def HoldField.code : HoldField → Nat
  | .off => 0
  | .applying => 1
  | .held => 2
  | .releasing => 3

/-- The hold field of a code. -/
def holdFieldOf : Nat → Option HoldField
  | 0 => some .off
  | 1 => some .applying
  | 2 => some .held
  | 3 => some .releasing
  | _ => none

/-- The code of a level state. -/
def LevelState.code : LevelState → Nat
  | .ride => 0
  | .levelling => 1
  | .kneeling => 2
  | .knelt => 3
  | .raising => 4
  | .fault => 5

/-- The level state of a code. -/
def levelStateOf : Nat → Option LevelState
  | 0 => some .ride
  | 1 => some .levelling
  | 2 => some .kneeling
  | 3 => some .knelt
  | 4 => some .raising
  | 5 => some .fault
  | _ => none

/-- The code of a steer state. -/
def SteerState.code : SteerState → Nat
  | .leading => 0
  | .locked => 1
  | .lockRelease => 2
  | .following => 3
  | .holding => 4
  | .centring => 5

/-- The steer state of a code. -/
def steerStateOf : Nat → Option SteerState
  | 0 => some .leading
  | 1 => some .locked
  | 2 => some .lockRelease
  | 3 => some .following
  | 4 => some .holding
  | 5 => some .centring
  | _ => none

/-- The code of a door state. -/
def DoorField.code : DoorField → Nat
  | .locked => 0
  | .unlocking => 1
  | .released => 2
  | .opening => 3
  | .opened => 4
  | .closing => 5
  | .reversing => 6
  | .locking => 7
  | .fault => 8
  | .lockedFault => 9

/-- The door state of a code. -/
def doorFieldOf : Nat → Option DoorField
  | 0 => some .locked
  | 1 => some .unlocking
  | 2 => some .released
  | 3 => some .opening
  | 4 => some .opened
  | 5 => some .closing
  | 6 => some .reversing
  | 7 => some .locking
  | 8 => some .fault
  | 9 => some .lockedFault
  | _ => none

/-- The code of a joint state. -/
def JointState.code : JointState → Nat
  | .tracking => 0
  | .static => 1
  | .reverse => 2
  | .fault => 3

/-- The joint state of a code. -/
def jointStateOf : Nat → Option JointState
  | 0 => some .tracking
  | 1 => some .static
  | 2 => some .reverse
  | 3 => some .fault
  | _ => none

/-- The code of a demand quality. -/
def Quality.code : Quality → Nat
  | .both => 0
  | .one => 1
  | .fallback => 2

/-- The demand quality of a code. -/
def qualityOf : Nat → Option Quality
  | 0 => some .both
  | 1 => some .one
  | 2 => some .fallback
  | _ => none

/-- The code of a hold request. -/
def HoldRequest.code : HoldRequest → Nat
  | .none => 0
  | .hold => 1

/-- The hold request of a code. -/
def holdRequestOf : Nat → Option HoldRequest
  | 0 => some .none
  | 1 => some .hold
  | _ => Option.none

/-- The code of a kneel request. -/
def KneelRequest.code : KneelRequest → Nat
  | .none => 0
  | .left => 1
  | .right => 2
  | .both => 3

/-- The kneel request of a code. -/
def kneelRequestOf : Nat → Option KneelRequest
  | 0 => some .none
  | 1 => some .left
  | 2 => some .right
  | 3 => some .both
  | _ => Option.none

/-- Every event kind, in increasing code. -/
def allKinds : List EventKind :=
  [.pathOverrun, .pathLag, .steerFault, .slipActive, .holdFault, .fallbackStop, .reverseStop, .jackknifeRisk,
   .jointEnd, .levelTimeout, .kneelAborted, .doorLockFault, .doorDriveFault, .doorObstructed, .doorEventOverrun,
   .channelHold, .channelFail, .snapshotOverrun, .profileClamped, .profileMismatch, .unlistedStation,
   .duplicateStation, .malformedFrame, .linkLoss]

/-- The event kind of a code. -/
def eventKindOf (c : Nat) : Option EventKind := allKinds.find? fun k => k.code == c

/-! ### Writing frames (R26: fields high byte first) -/

/-- A one-byte field. -/
def byteOf (n : Nat) : Byte := BitVec.ofNat 8 n

/-- A two-byte field. -/
def wordBytes (w : BitVec 16) : List Byte := [w.extractLsb' 8 8, w.extractLsb' 0 8]

/-- A four-byte field. -/
def longBytes (w : BitVec 32) : List Byte :=
  [w.extractLsb' 24 8, w.extractLsb' 16 8, w.extractLsb' 8 8, w.extractLsb' 0 8]

/-- A two-byte field holding a number. -/
def natBytes (n : Nat) : List Byte := wordBytes (BitVec.ofNat 16 n)

/-- A two-byte field holding a signed number. -/
def intBytes (x : Int) : List Byte := wordBytes (BitVec.ofInt 16 x)

/-- Bit `k` set or not, as a number. -/
def bitIf (b : Bool) (k : Nat) : Nat := if b then 2 ^ k else 0

/-- The latch set byte. -/
def LatchSet.byte (l : LatchSet) : Byte :=
  byteOf (bitIf l.steer 0 + bitIf l.level 1 + bitIf l.door 2 + bitIf l.hold 3)

/-- The axle flags byte. -/
def AxlePart.flags (a : AxlePart) : Byte :=
  byteOf (bitIf (decide (a.direction = .reverse)) 0 + bitIf a.standstill 1 + bitIf a.frozen 2 + bitIf a.slip 3)

/-- The body bytes of an AXLE part, from byte 6 on. -/
def AxlePart.bytes (a : AxlePart) : List Byte :=
  natBytes a.speed ++ [a.flags] ++ natBytes a.load ++
    [byteOf a.hold.code, byteOf a.level.code, byteOf a.steer.code] ++ intBytes a.command ++
    [byteOf a.doors.length] ++ a.doors.flatMap fun d => [byteOf d.number, byteOf d.state.code]

/-- The body bytes of a JOINT part, from byte 6 on. -/
def JointPart.bytes (j : JointPart) : List Byte :=
  intBytes j.angle ++ [byteOf j.state.code, byteOf (bitIf j.risk 0), byteOf j.damping]

/-- The role part code (byte 5) and the role part. -/
def RolePart.bytes : RolePart → List Byte
  | .none => [0]
  | .axle a => 1 :: a.bytes
  | .joint j => 2 :: j.bytes

/-- A STATUS body. -/
def StatusRec.body (r : StatusRec) : List Byte :=
  [byteOf r.station.code] ++ wordBytes r.signature ++ [r.latches.byte, r.seq] ++ r.part.bytes

/-- A PATH body. -/
def PathPoint.body (p : PathPoint) : List Byte :=
  [byteOf p.epoch.toNat] ++ longBytes p.distance ++ wordBytes p.tangent ++ wordBytes p.section_ ++ [0]

/-- A DEMAND body. -/
def DemandRec.body (r : DemandRec) : List Byte :=
  [r.seq] ++ natBytes r.brake ++
    [byteOf r.quality.code, byteOf r.hold.code, byteOf r.kneel.code, r.clear,
     byteOf r.release.length, byteOf r.opens.length] ++
    r.release.map byteOf ++ r.opens.map byteOf

/-- A NOTICE body, in increasing kind code (R37). -/
def noticeBody (kinds : List EventKind) : List Byte :=
  byteOf kinds.length :: kinds.map fun k => byteOf k.code

/-- The characters after the start character: header, body and CRC (R24, R26). -/
def frameChars (kind : FrameKind) (sender : Fin 8) (body : List Byte) : List Byte :=
  let covered := [byteOf (kindCode kind), byteOf sender.val, byteOf body.length] ++ body
  covered ++ wordBytes (crc16 covered)

/-! ### Reading frames -/

/-- What a frame carries. -/
inductive Frame where
  | status (record : StatusRec)
  | path (point : PathPoint)
  | demand (record : DemandRec)
  | notice (kinds : List EventKind)
deriving DecidableEq, Repr

/-- The latch set of its byte; bits 4 to 7 are zero (R26). -/
def latchSetOf (b : Nat) : Option LatchSet :=
  if b < 16 then some ⟨bitOf b 0, bitOf b 1, bitOf b 2, bitOf b 3⟩ else none

/-- The door entries of an AXLE part: number 1 to 8, then the state (R26). -/
def doorEntriesOf : List Byte → Option (List DoorEntry)
  | [] => some []
  | [_] => none
  | n :: st :: rest =>
    if 1 ≤ n.toNat ∧ n.toNat ≤ 8 then
      match doorFieldOf st.toNat, doorEntriesOf rest with
      | some f, some es => some (⟨n.toNat, f⟩ :: es)
      | _, _ => none
    else none

/-- The AXLE part of a body of the required length; none if a field is out of range (R26). -/
def axlePartOf (b : List Byte) : Option AxlePart :=
  match holdFieldOf (byteAt b 11), levelStateOf (byteAt b 12), steerStateOf (byteAt b 13),
      doorEntriesOf (b.drop 17) with
  | some h, some l, some st, some ds =>
    if byteAt b 8 < 16 ∧ byteAt b 16 ≤ 2 ∧ -2500 ≤ signedAt b 14 ∧ signedAt b 14 ≤ 2500 then
      some { speed := wordAt b 6, direction := if bitOf (byteAt b 8) 0 then .reverse else .forward,
             standstill := bitOf (byteAt b 8) 1, frozen := bitOf (byteAt b 8) 2, slip := bitOf (byteAt b 8) 3,
             load := wordAt b 9, hold := h, level := l, steer := st, command := signedAt b 14, doors := ds }
    else none
  | _, _, _, _ => none

/-- The JOINT part of a body of the required length; none if a field is out of range (R26). -/
def jointPartOf (b : List Byte) : Option JointPart :=
  match jointStateOf (byteAt b 8) with
  | some st =>
    if -16384 ≤ signedAt b 6 ∧ signedAt b 6 ≤ 16384 ∧ byteAt b 9 ≤ 1 ∧ byteAt b 10 ≤ 100 then
      some { angle := signedAt b 6, state := st, risk := byteAt b 9 == 1, damping := byteAt b 10 }
    else none
  | none => none

/-- The role part named in byte 5, which must match the role the profile gives the sender (R27, check 8). -/
def rolePartOf (sender : StationRec) (b : List Byte) : Option RolePart :=
  match byteAt b 5, sender with
  | 0, .cab => some .none
  | 1, .axle _ _ => (axlePartOf b).map .axle
  | 2, .joint _ _ => (jointPartOf b).map .joint
  | _, _ => none

/-- A STATUS body; none if a field is out of range (R26, R27). -/
def statusOf (sender : StationRec) (b : List Byte) : Option StatusRec :=
  match stationStateOf (byteAt b 0), latchSetOf (byteAt b 3), rolePartOf sender b with
  | some st, some l, some part =>
    some { station := st, signature := BitVec.ofNat 16 (wordAt b 1), latches := l,
           seq := byteOf (byteAt b 4), part := part }
  | _, _, _ => none

/-- A PATH body; none if a field is out of range (R26). -/
def pathOf (b : List Byte) : Option PathPoint :=
  if byteAt b 0 ≤ 15 ∧ byteAt b 9 = 0 then
    some { epoch := BitVec.ofNat 4 (byteAt b 0),
           distance := BitVec.ofNat 32 (wordAt b 1 * 65536 + wordAt b 3),
           tangent := BitVec.ofNat 16 (wordAt b 5), section_ := BitVec.ofNat 16 (wordAt b 7) }
  else none

/-- A list of door numbers in range, no number twice (R26). -/
def doorListOk (l : List Nat) : Bool := l.all (fun d => decide (1 ≤ d) && decide (d ≤ 8)) && decide l.Nodup

/-- A DEMAND body; none if a field is out of range (R26). -/
def demandOf (b : List Byte) : Option DemandRec :=
  let r := byteAt b 7
  let o := byteAt b 8
  let release := ((b.drop 9).take r).map BitVec.toNat
  let opens := ((b.drop (9 + r)).take o).map BitVec.toNat
  match qualityOf (byteAt b 3), holdRequestOf (byteAt b 4), kneelRequestOf (byteAt b 5) with
  | some q, some h, some k =>
    if wordAt b 1 ≤ 800 ∧ r ≤ 8 ∧ o ≤ 8 ∧ doorListOk release = true ∧ doorListOk opens = true then
      some { seq := byteOf (byteAt b 0), brake := wordAt b 1, quality := q, hold := h, kneel := k,
             clear := byteOf (byteAt b 6), release := release, opens := opens }
    else none
  | _, _, _ => none

/-- The kinds of a list of codes; none if a code is out of range. -/
def kindsOf : List Byte → Option (List EventKind)
  | [] => some []
  | c :: rest =>
    match eventKindOf c.toNat, kindsOf rest with
    | some k, some ks => some (k :: ks)
    | _, _ => none

/-- A NOTICE body; none if a field is out of range or a code stands twice (R26). -/
def noticeOf (b : List Byte) : Option (List EventKind) :=
  if 1 ≤ byteAt b 0 ∧ byteAt b 0 ≤ 24 ∧ (b.drop 1).Nodup then kindsOf (b.drop 1) else none

/-- The frame a body of the required length carries; none if it fails check 8 (R27). -/
def frameOf (kind : FrameKind) (sender : StationRec) (b : List Byte) : Option Frame :=
  match kind with
  | .status => (statusOf sender b).map .status
  | .path => (pathOf b).map .path
  | .demand => (demandOf b).map .demand
  | .notice => (noticeOf b).map .notice

/-- Check 3 of R27: the body length is the one the kind requires, computed from the codes and counts as received. A
body too short to hold such a code has no length that passes. -/
def lengthOk (kind : FrameKind) (b : List Byte) : Bool :=
  match kind with
  | .status =>
    if b.length < 6 then false
    else
      match byteAt b 5 with
      | 0 => b.length == 6
      | 1 => b.length == 17 + 2 * byteAt b 16
      | 2 => b.length == 11
      | _ => true
  | .path => b.length == 10
  | .demand => b.length == 9 + byteAt b 7 + byteAt b 8
  | .notice => b.length == 1 + byteAt b 0

/-- Check 7 of R27: PATH from the leading axle, DEMAND from station 0, STATUS and NOTICE from any. -/
def kindAllowed (kind : FrameKind) (n : Fin 8) (sender : StationRec) : Bool :=
  match kind with
  | .status => true
  | .path => sender.isLeading
  | .demand => decide (n = 0)
  | .notice => true

/-- The fate of a complete frame (R27). -/
inductive Verdict where
  | discarded
  | malformed
  | duplicate
  | unlisted
  | accepted (sender : Fin 8) (frame : Frame)
deriving DecidableEq, Repr

/-- Checks 4 to 8 of R27, on a frame of a known kind and the right length. -/
def judgeSender (p : Profile) (own : Fin 8) (kind : FrameKind) (sender : Nat) (body : List Byte) : Verdict :=
  if h : sender < 8 then
    let n : Fin 8 := ⟨sender, h⟩
    if n = own then .duplicate
    else if (p.station n).isPresent = false then .unlisted
    else if kindAllowed kind n (p.station n) = false then .malformed
    else
      match frameOf kind (p.station n) body with
      | some f => .accepted n f
      | none => .malformed
  else .malformed

/-- The checks of R27 in their order, on the characters after the start character. -/
def judge (p : Profile) (own : Fin 8) (chars : List Byte) : Verdict :=
  let covered := chars.take (3 + byteAt chars 2)
  let body := covered.drop 3
  if wordBytes (crc16 covered) ≠ chars.drop (3 + byteAt chars 2) then .discarded
  else
    match frameKindOf (byteAt chars 0) with
    | none => .malformed
    | some kind =>
      if lengthOk kind body then judgeSender p own kind (byteAt chars 1) body else .discarded

end Sys2Proof.Machine
end

