-- ==== Sys2Proof/Machine/Image.lean ====
section
/-! DEFINITION. The profile image (10, R186 to R188): its bytes read into a profile, the structural checks, and the range
clamps. -/

namespace Sys2Proof.Machine

/-! ### Reading the image (R186) -/

/-- A spacing field: FFFF is an absent spacing (R186). -/
def spacingAt (m : List Byte) (i : Nat) : Option Nat := if wordAt m i = 65535 then none else some (wordAt m i)

/-- The AXLE record at `i`. The leading axle's spacing counts as 0 (R188) and its follow gain is no field of the profile
(R94; log entry 14). -/
def axleRecAt (m : List Byte) (i : Nat) (leading : Bool) : AxleRec where
  spacing := if leading then some 0 else spacingAt m i
  followGain := if leading then 0 else wordAt m (i + 2)
  springFactor := wordAt m (i + 4)
  unsprung := wordAt m (i + 6)
  brakeGain := wordAt m (i + 8)
  pitch := byteAt m (i + 10)

/-- The JOINT record at `i`. -/
def jointRecAt (m : List Byte) (i : Nat) : JointRec where
  spacing := spacingAt m i
  ratio := wordAt m (i + 2)
  eOn := wordAt m (i + 4)
  eOff := wordAt m (i + 6)
  staticLimit := wordAt m (i + 8)
  reverseLimit := wordAt m (i + 10)
  endLimit := wordAt m (i + 12)
  vHi := wordAt m (i + 14)
  d0 := byteAt m (i + 16)
  d1 := byteAt m (i + 17)
  kd := byteAt m (i + 18)
  stretch := byteAt m (i + 19)

/-- Station `n` of the image: the role in bits 0 and 1 of its table byte, the position or number in bits 4 to 6. -/
def stationAt (m : List Byte) (n : Nat) : StationRec :=
  let b := byteAt m n
  let number := b / 16 % 8
  match b % 4 with
  | 0 => .absent
  | 1 => .cab
  | 2 => .axle number (axleRecAt m (8 + 20 * n) (number == 1))
  | _ => .joint number (jointRecAt m (8 + 20 * n))

/-- Door `d` of the image: listed in bit 7, the owner in bits 0 to 2, the side in bit 3. -/
def doorAt (m : List Byte) (d : Nat) : Option DoorInfo :=
  let b := byteAt m (167 + d)
  if bitOf b 7 then
    some { number := d, owner := ⟨b % 8, Nat.mod_lt b (by decide)⟩, side := if bitOf b 3 then .right else .left }
  else none

/-- `count` channel calibrations from byte `i` on: gain, then signed offset. -/
def calibrationsAt (m : List Byte) (i count : Nat) : List ChannelCal :=
  (List.range count).map fun k => ⟨wordAt m (i + 4 * k), signedAt m (i + 4 * k + 2)⟩

/-- The image read as it stands, before any clamp (R186). -/
def readImage (m : List Byte) : Profile where
  stations := Vector.ofFn fun n : Fin 8 => stationAt m n.val
  doors := [1, 2, 3, 4, 5, 6, 7, 8].filterMap (doorAt m)
  pathStep := wordAt m 176
  lagLimit := wordAt m 178
  fullLimit := wordAt m 180
  kneelLimit := wordAt m 182
  rateStep := byteAt m 184
  v1 := wordAt m 185
  v2 := wordAt m 187
  pMax := wordAt m 189
  fallback := wordAt m 191
  reverseStop := wordAt m 193
  holdPressure := wordAt m 195
  rideHeight := wordAt m 197
  kneelDrop := byteAt m 199
  kneelFloor := wordAt m 200
  dwellMs := wordAt m 202
  latency := byteAt m 204
  divisor := byteAt m 205 % 8
  statusSlow := bitOf (byteAt m 205) 3
  noticeCode := byteAt m 205 / 16 % 4
  capacityCode := byteAt m 205 / 64 % 4
  axleCal := calibrationsAt m 206 8
  jointCal := calibrationsAt m 238 2
  cabCal := calibrationsAt m 246 2

/-- The stored CRC, which is the profile signature (R186, R188). -/
def storedCrc (m : List Byte) : BitVec 16 := BitVec.ofNat 16 (wordAt m 254)

/-! ### The structural checks (R187) -/

/-- Check 1: the CRC of bytes 0 to 253. -/
def crcHolds (m : List Byte) : Bool := crc16 (m.take 254) == storedCrc m

/-- Check 2: the strap number's role is not absent. -/
def Profile.rolePresent (p : Profile) (own : Fin 8) : Bool := (p.station own).isPresent

/-- A station's place: its kind and its position or number, none for CAB and absent. -/
def StationRec.place : StationRec → Option (Bool × Nat)
  | .axle position _ => some (true, position)
  | .joint number _ => some (false, number)
  | .cab => none
  | .absent => none

/-- Check 3: CAB only at station 0; positions and numbers 1 to 7, none shared. -/
def Profile.placesHold (p : Profile) : Bool :=
  (allStations.all fun n => decide (n = 0) || decide (p.station n ≠ .cab)) &&
    (allStations.filterMap fun n => (p.station n).place).all (fun x => decide (1 ≤ x.2) && decide (x.2 ≤ 7)) &&
    decide (allStations.filterMap fun n => (p.station n).place).Nodup

/-- A following axle's or joint's spacing; the leading axle, the CAB and an absent station have none to check. -/
def StationRec.spacing? : StationRec → Option Nat
  | .axle _ r => r.spacing
  | .joint _ r => r.spacing
  | .cab => none
  | .absent => none

/-- Check 4: a following axle or a joint needs a leading axle and its own spacing. -/
def Profile.leaderHolds (p : Profile) (own : Fin 8) : Bool :=
  !((p.station own).isFollowing || (p.station own).isJoint) ||
    (p.leading.isSome && (p.station own).spacing?.isSome)

/-- Check 5: a joint needs an axle ahead of it and an axle behind it, each with a spacing (R63). -/
def Profile.neighboursHold (p : Profile) (own : Fin 8) : Bool :=
  !(p.station own).isJoint ||
    match (p.station own).spacing? with
    | some d => (p.aheadSpacing d).isSome && (p.behindSpacing d).isSome
    | none => false

/-- Check 6: every listed door has a present AXLE as its owner, and none owns more than two. -/
def Profile.doorsHold (p : Profile) : Bool :=
  p.doors.all fun d =>
    (p.station d.owner).isAxle && decide ((p.doors.filter fun e => decide (e.owner = d.owner)).length ≤ 2)

/-- Checks 2 to 6 of R187, on the image before any clamp. -/
def Profile.checksHold (p : Profile) (own : Fin 8) : Bool :=
  p.rolePresent own && p.placesHold && p.leaderHolds own && p.neighboursHold own && p.doorsHold

/-! ### The range clamps (R188) -/

/-- A spacing that is not absent lies in 1 to 30,000. -/
def clampSpacing (x : Option Nat) : Option Nat := x.map (clampNat 1 30000)

/-- The clamps of an AXLE record; the leading axle's spacing is not read (R6, R94, R126, R188). -/
def AxleRec.clamped (r : AxleRec) (leading : Bool) : AxleRec where
  spacing := if leading then r.spacing else clampSpacing r.spacing
  followGain := clampNat 0 256 r.followGain
  springFactor := clampNat 0 6000 r.springFactor
  unsprung := clampNat 0 9000 r.unsprung
  brakeGain := clampNat 10 1000 r.brakeGain
  pitch := evenDown (clampNat 10 80 r.pitch)

/-- The clamps of a JOINT record (R108, R126, R188). -/
def JointRec.clamped (r : JointRec) : JointRec where
  spacing := clampSpacing r.spacing
  ratio := clampNat 0 512 r.ratio
  eOn := clampNat 100 16384 r.eOn
  eOff := clampNat 50 (clampNat 100 16384 r.eOn - 50) r.eOff
  staticLimit := clampNat 1000 16384 r.staticLimit
  reverseLimit := clampNat 1000 16384 r.reverseLimit
  endLimit := clampNat 1000 16384 r.endLimit
  vHi := clampNat 1000 40000 r.vHi
  d0 := clampNat 0 100 r.d0
  d1 := clampNat (clampNat 0 100 r.d0) 100 r.d1
  kd := clampNat 0 64 r.kd
  stretch := clampNat 0 128 r.stretch

/-- The clamps of a station record. -/
def StationRec.clamped : StationRec → StationRec
  | .axle position r => .axle position (r.clamped (position == 1))
  | .joint number r => .joint number r.clamped
  | .cab => .cab
  | .absent => .absent

/-- The larger magnitude of the clamp ranges of the channels (R14). -/
def axleOffsets : List Int := [1000, 1000, 1200, 1200, 1200, 1200, 6000, 6000]
/-- The same for the JOINT channels. -/
def jointOffsets : List Int := [16384, 1200]
/-- The same for the CAB channels. -/
def cabOffsets : List Int := [100, 100]

/-- The clamps of channel calibrations (R14, R188). -/
def clampCal (limits : List Int) (cal : List ChannelCal) : List ChannelCal :=
  List.zipWith (fun l c => ⟨clampNat 0 1023 c.gain, clampInt (-l) l c.offset⟩) limits cal

/-- Every field clamped into its range (R188, and the profile tables R6, R22, R94, R108, R126, R147, R166, R183). -/
def Profile.clamped (p : Profile) : Profile :=
  { p with
    stations := p.stations.map StationRec.clamped
    pathStep := evenDown (clampNat 100 500 p.pathStep)
    lagLimit := clampNat 500 8000 p.lagLimit
    fullLimit := clampNat 0 2500 p.fullLimit
    kneelLimit := clampNat 0 2500 p.kneelLimit
    rateStep := clampNat 5 50 p.rateStep
    v1 := clampNat 1000 30000 p.v1
    v2 := clampNat (clampNat 1000 30000 p.v1 + 1000) 40000 p.v2
    pMax := clampNat 200 1000 p.pMax
    fallback := clampNat 50 400 p.fallback
    reverseStop := clampNat 100 800 p.reverseStop
    holdPressure := clampNat 300 1000 p.holdPressure
    rideHeight := clampNat 100 800 p.rideHeight
    kneelDrop := clampNat 20 100 p.kneelDrop
    kneelFloor := clampNat 0 (clampNat 100 800 p.rideHeight) p.kneelFloor
    dwellMs := clampNat 1000 30000 p.dwellMs
    divisor := if p.divisor = 2 then 2 else 5
    noticeCode := if p.noticeCode = 3 then 1 else p.noticeCode
    capacityCode := if p.capacityCode = 3 then 1 else p.capacityCode
    axleCal := clampCal axleOffsets p.axleCal
    jointCal := clampCal jointOffsets p.jointCal
    cabCal := clampCal cabOffsets p.cabCal }

/-- Some field lies outside its range, which raises PROFILE_CLAMPED (R188). -/
def Profile.needsClamp (p : Profile) : Bool := decide (p.clamped ≠ p)

end Sys2Proof.Machine
end

