-- ==== Sys2Proof/Machine/Path.lean ====
section
/-! DEFINITION. The path unit (03): laying at the leading axle, intake, lookup and trimming at followers and joints, and
the lag check. Its steps are parts of WHEEL_EDGE, CONVERSION_COMPLETE, FRAME_RECEIVED and the updates. -/

namespace Sys2Proof.Machine

/-! ### Laying (R52 to R58) -/

/-- The path step as a distance. -/
def State.pathStep (s : State) : Dist := BitVec.ofNat 32 s.sc.prof.pathStep

/-- The section heading Ψ: the upper 16 bits of the accumulator (R53). -/
def PathUnit.psi (p : PathUnit) : Bau := p.acc.extractLsb' 16 16

/-- The accumulator's change over `dt` µs at a yaw rate of `r` cdeg/s (R53). -/
def yawTurn (r : Int) (dt : Nat) : BitVec 32 :=
  BitVec.ofInt 32 (roundDiv (r * dt * 4294967296) 36000000000)

/-- Integrate a yaw completion that presents the value `r` (R53). -/
def PathUnit.integrate (r : Int) (stamp : Time) (p : PathUnit) : PathUnit :=
  match p.prevYaw with
  | some t => { p with acc := p.acc + yawTurn r (min (age stamp t) Config.yawStepCap), prevYaw := some stamp }
  | none => { p with prevYaw := some stamp }

/-- A yaw completion reaches the path unit of the leading axle (R53, R54, R55). -/
def yawCompletion (c : Channel) (s : State) : State :=
  match s.pu.laying with
  | .idle => s
  | .laying =>
    if c.condition = .failed then { s with pu := { s.pu with laying := .headingLost } }
    else
      match c.value with
      | some r => { s with pu := s.pu.integrate r s.now }
      | none => { s with pu := { s.pu with prevYaw := some s.now } }
  | .reversing =>
    if c.condition = .failed then { s with pu := { s.pu with laying := .headingLost } } else s
  | .headingLost =>
    match c.goodReading with
    | some _ =>
      { s with pu := { s.pu with
          acc := 0
          prevYaw := some s.now
          nextStep := s.pc.pathOdo + s.pathStep
          epoch := if s.pc.direction = .forward then s.pu.epoch + 1 else s.pu.epoch
          laying := if s.pc.direction = .forward then .laying else .reversing } }
    | none => s

/-- The point laid at the present path odometer with front steer angle `d1` in cdeg (R56). -/
def State.pointAt (d1 : Int) (s : State) : PathPoint where
  epoch := s.pu.epoch
  distance := s.pc.pathOdo
  tangent := s.pu.psi + BitVec.ofInt 16 (roundDiv (d1 * 65536) 36000)
  section_ := s.pu.psi

/-- Lay a point: it becomes the newest, a PATH frame is requested, and δ1 becomes the STATUS steer command (R57). -/
def layPoint (d1 : Int) (s : State) : State :=
  State.request .path
    { s with
      pu := { s.pu with newest := some (s.pointAt d1) }
      su := { s.su with command := clampInt (-2500) 2500 d1 } }

/-- A change of the path odometer reaches the path unit (R56). -/
def pathOdometerChanged (s : State) : State :=
  if s.pu.laying = .laying ∧ 0 ≤ aheadBy s.pc.pathOdo s.pu.nextStep then
    let t := { s with pu := { s.pu with nextStep := s.pu.nextStep + s.pathStep } }
    match (s.channel 6).reading with
    | some d1 => layPoint d1 t
    | none => t
  else s

/-- The restart of the path odometer after reversing reaches the path unit (R55, R58). -/
def pathRestart (s : State) : State :=
  if s.pu.laying = .reversing then
    { s with pu := { s.pu with
        epoch := s.pu.epoch + 1, acc := 0, prevYaw := none, nextStep := s.pathStep, laying := .laying } }
  else s

/-- A REVERSE edge reaches the path unit (R58). -/
def pathReverse (s : State) : State :=
  if s.pu.laying = .laying then { s with pu := { s.pu with laying := .reversing } } else s

/-- The leading axle enters ACTIVE or ISOLATED from LISTENING (R52). -/
def pathEnterDriving (s : State) : State :=
  if s.own.isLeading then
    { s with pu := { s.pu with
        acc := 0
        prevYaw := none
        nextStep := s.pc.pathOdo + s.pathStep
        laying :=
          if (s.channel 7).condition = .failed then .headingLost
          else if s.pc.direction = .forward then .laying else .reversing } }
  else s

/-! ### Intake (R60, R61) -/

/-- A path point as it stands in the queue. -/
def PathPoint.queued (p : PathPoint) (mark : Bool) : QueuePoint :=
  ⟨p.distance, p.tangent, p.section_, p.epoch, mark⟩

/-- The newest point of a queue. -/
def newestPoint (q : List QueuePoint) : Option QueuePoint := q.getLast?

/-- A point has been taken: a following axle's lag reference moves and PATH_LAG is withdrawn (R68). -/
def lagRearm (s : State) : State :=
  if s.own.isFollowing then
    { s with pu := { s.pu with lagRef := some s.pc.ownOdo, lagStands := false } }
  else s

/-- The point becomes the only point, its epoch the queue epoch (R60). -/
def takeOnly (p : PathPoint) (s : State) : State :=
  lagRearm { s with pu := { s.pu with queue := [p.queued false], queueEpoch := some p.epoch } }

/-- The point becomes the newest; a full queue loses its oldest point and PATH_OVERRUN is raised (R60). -/
def takeNewest (mark : Bool) (p : PathPoint) (s : State) : State :=
  let full := decide (s.sc.prof.queueCapacity ≤ s.pu.queue.length)
  let kept := if full then s.pu.queue.drop 1 else s.pu.queue
  State.raiseIf full .pathOverrun
    (lagRearm { s with pu := { s.pu with queue := kept ++ [p.queued mark] } })

/-- An accepted PATH frame at a following axle or a joint (R60). -/
def pathIntake (p : PathPoint) (s : State) : State :=
  match newestPoint s.pu.queue with
  | none => takeOnly p s
  | some newest =>
    if s.pu.queueEpoch ≠ some p.epoch then takeOnly p s
    else if aheadBy p.distance newest.distance ≤ 0 then s
    else takeNewest (decide ((Config.bridgeFactor * s.sc.prof.pathStep : Nat) < aheadBy p.distance newest.distance)) p s

/-- The own path unit keeps a path queue: a following axle or a joint. -/
def State.keepsQueue (s : State) : Bool := s.own.isFollowing || s.own.isJoint

/-- A STATUS of the leading axle that empties the queue: LISTENING, INERT, or REVERSE (R61). -/
def StatusRec.emptiesQueue (r : StatusRec) : Bool :=
  decide (r.station = .listening) || decide (r.station = .inert) ||
    match r.part with
    | .axle a => decide (a.direction = .reverse)
    | .joint _ => false
    | .none => false

/-- The path unit watches the leading axle's reports (R61). -/
def pathLeadingReport (n : Fin 8) (r : StatusRec) (s : State) : State :=
  if s.keepsQueue ∧ s.sc.prof.leading = some n ∧ r.emptiesQueue = true then
    { s with pu := { s.pu with queue := [], queueEpoch := none } }
  else s

/-! ### Lookup and trim (R63 to R67) -/

/-- What a lookup gives (R64). -/
inductive Lookup where
  | noPath
  | brk
  | value (tangent : Bau)
deriving DecidableEq, Repr

/-- P_a, the newest point at or behind `s`, with the points after it (R64). -/
def bracket (s : Dist) : List QueuePoint → Option (QueuePoint × List QueuePoint)
  | [] => none
  | p :: rest =>
    match bracket s rest with
    | some found => some found
    | none => if aheadBy p.distance s ≤ 0 then some (p, rest) else none

/-- T(s) between P_a and P_b (R65). -/
def interpolate (s : Dist) (a b : QueuePoint) : Bau :=
  a.tangent + BitVec.ofInt 16
    (truncDiv (angleDiff b.tangent a.tangent * (s - a.distance).toNat) (b.distance - a.distance).toNat)

/-- The lookup at position `s` (R64). -/
def lookup (s : Dist) (q : List QueuePoint) : Lookup :=
  match bracket s q with
  | none => .noPath
  | some (_, []) => .noPath
  | some (a, b :: _) => if b.breakBefore then .brk else .value (interpolate s a b)

/-- The lookup at a position that is absent while the queue is empty (R63). -/
def lookupAt (s : Option Dist) (q : List QueuePoint) : Lookup :=
  match s with
  | some d => lookup d q
  | none => .noPath

/-- Remove every point older than P_a of the rearmost position (R67). -/
def trim (s : Option Dist) (q : List QueuePoint) : List QueuePoint :=
  match s with
  | none => q
  | some d =>
    match bracket d q with
    | some (a, rest) => a :: rest
    | none => q

/-- The path unit trims its queue at a position (R67). -/
def State.trimQueue (at_ : Option Dist) (s : State) : State :=
  { s with pu := { s.pu with queue := trim at_ s.pu.queue } }

/-- The position a spacing behind the newest point (R63). -/
def State.position (s : State) (spacing : Nat) : Option Dist :=
  (newestPoint s.pu.queue).map fun p => p.distance - BitVec.ofNat 32 spacing

/-! ### The lag check (R68) -/

/-- A change of a following axle's own odometer reaches the path unit (R68). -/
def lagCheck (s : State) : State :=
  match s.pu.lagRef with
  | none => s
  | some ref =>
    if s.pu.lagStands then s
    else if s.sc.prof.lagLimit < (s.pc.ownOdo - ref).toNat then
      State.raise .pathLag { s with pu := { s.pu with lagStands := true } }
    else s

end Sys2Proof.Machine
end

