-- ==== Sys2Proof/Machine/Control.lean ====
section
/-! DEFINITION. Station control (10, R185 to R191): POWER_ON, RESTART, SUPPLY_SETTLED, RESTART_INPUT_HIGH,
PROFILE_LOAD_COMPLETE, LISTEN_WINDOW_END, PEER_SILENCE_TIMEOUT and SUPPLY_LOSS. -/

namespace Sys2Proof.Machine

/-! ### Power-on and restart (R185) -/

/-- The state power-on begins with: every item at its power-on value, local time 0, the strap read; the commands that wait
and the count of drawn free values are the model's own and stay (R1, R185). -/
def powerOn (strap : Fin 8) (restartHigh : Bool) (locks : LockLevels) (s : State) : State :=
  { State.reset with
    sc := { Control.reset with strap := strap, restartLow := !restartHigh }
    du := DoorUnit.reset locks
    draws := s.draws
    pending := s.pending }

/-- A restart is taken (R185). -/
def restart (locks : LockLevels) (s : State) : State :=
  if s.sc.station = .inert then restartInert s else restartValues locks s

/-- A pulse of at least 10 µs is a restart (R185). -/
def isRestart (lowFor : Nat) (_ : State) : Bool := decide (Config.restartPulse ≤ lowFor)

/-- The station leaves POWERUP: the lamp test is measured from here (R192), and it goes to LISTENING if the check result is
PASSED and to PROFILE_LOAD if it is not (R185). -/
def leavePowerup (s : State) : State :=
  let t := { s with cu := { s.cu with lampStart := some s.now } }
  match t.sc.check with
  | .passed => enterListening t
  | .none => { t with sc := { t.sc with station := .profileLoad } }
  | .failed => { t with sc := { t.sc with station := .profileLoad } }

/-- The supply has settled; with the restart input high the station leaves POWERUP (R185; log entry 7). -/
def supplySettled (s : State) : State :=
  let t := { s with sc := { s.sc with settled := true } }
  if t.sc.restartLow then t else leavePowerup t

/-- The supply settles in POWERUP. -/
def State.settles (s : State) : Bool := decide (s.sc.station = .powerup) && !s.sc.settled

/-- The restart input goes high in INERT: the STATUS schedule starts with a request, the receive half waits for idle line,
and a set duplicate flag raises DUPLICATE_STATION with a final NOTICE (R185, R191). -/
def inertInputHigh (s : State) : State :=
  let t := { s with sched := inertSchedules s.sc.prof s.now }
  let t := t.startIdleWait.request .status
  if t.sc.duplicate then (t.raise .duplicateStation).requestFinalNotice else t

/-- The restart input goes high (R185). -/
def restartInputHigh (s : State) : State :=
  let t := { s with sc := { s.sc with restartLow := false } }
  match t.sc.station with
  | .inert => inertInputHigh t
  | .powerup => if t.sc.settled then leavePowerup t else t
  | .profileLoad => t
  | .listening => t
  | .active => t
  | .isolated => t

/-- The restart input stands low. -/
def State.inputLow (s : State) : Bool := s.sc.restartLow

/-! ### The profile load (R187) -/

/-- The profile comes into use: the items whose reset values it gives take them (R59, R165, R182). -/
def useProfile (p : Profile) (s : State) : State :=
  { s with
    sc := { s.sc with prof := p }
    pu := PathUnit.reset p.pathStep
    lu := { s.lu with
      left := { s.lu.left with target := p.rideHeight }
      right := { s.lu.right with target := p.rideHeight } }
    du := { s.du with doors := doorTable p s.sc.strap s.du.resetLocks } }

/-- The bytes are read; the stored CRC is the signature (R186, R188). -/
def storeImage (m : List Byte) (s : State) : State :=
  { s with sc := { s.sc with image := m, signature := storedCrc m } }

/-- The check result is FAILED: the station enters INERT, its receive half waiting for idle line (R187, R191). -/
def failProfile (locks : LockLevels) (crc : Bool) (s : State) : State :=
  enterInert locks
    { s with sc := { s.sc with check := .failed, crcFailed := crc } }.startIdleWait

/-- The image comes into use with its clamps, PROFILE_CLAMPED raised if one was needed (R187, R188). -/
def useImage (m : List Byte) (s : State) : State :=
  State.raiseIf (readImage m).needsClamp .profileClamped (useProfile (readImage m).clamped (storeImage m s))

/-- The structural checks are complete (R187). -/
def profileLoadComplete (m : List Byte) (locks : LockLevels) (s : State) : State :=
  if !crcHolds m then failProfile locks true (useProfile Profile.unloaded (storeImage m s))
  else if (readImage m).checksHold s.sc.strap then
    enterListening { useImage m s with sc := { (useImage m s).sc with check := .passed, crcFailed := false } }
  else failProfile locks false (useImage m s)

/-- The station is in PROFILE_LOAD. -/
def State.loading (s : State) : Bool := decide (s.sc.station = .profileLoad)

/-! ### Listening, active and isolated (R189, R190) -/

/-- The station enters ISOLATED, and ISOLATED is raised as LINK_LOSS (R36, R189, R190). -/
def enterIsolated (s : State) : State :=
  State.raise .linkLoss { s with sc := { s.sc with station := .isolated } }

/-- The listen window ends: ACTIVE if a peer was heard, ISOLATED otherwise; the leading axle's path unit starts (R52, R189). -/
def listenWindowEnd (s : State) : State :=
  let t := { s with sc := { s.sc with listenStart := none } }
  pathEnterDriving
    (if t.sc.heard then { t with sc := { t.sc with station := .active } } else enterIsolated t)

/-- The listen window is over (R189). -/
def State.windowOver (s : State) : Bool :=
  decide (s.sc.station = .listening) && lasted s.sc.listenStart Config.listenWindow s.now

/-- The last-peer stamp is older than 100,000 µs in ACTIVE (R190). -/
def State.peersSilent (s : State) : Bool :=
  decide (s.sc.station = .active) &&
    match s.sc.lastPeer with
    | some t => decide (Config.peerSilence < age s.now t)
    | none => false

/-! ### Loss of supply -/

/-- The supply is lost: the frame in flight is cut, nothing runs, and local time stands until the next power-on (R33;
log entry 8). -/
def supplyLoss (s : State) : State :=
  { State.reset with powered := false, now := s.now, draws := s.draws, pending := s.pending }

/-! ### The commands -/

/-- POWER_ON (R185). -/
def execPowerOn (strap : Fin 8) (restartHigh : Bool) (locks : LockLevels) (s : State) :
    Host.Outcome State Fault Refusal :=
  .next (powerOn strap restartHigh locks s)

/-- RESTART (R185). -/
def execRestart (dt lowFor : Nat) (locks : LockLevels) (s : State) : Host.Outcome State Fault Refusal :=
  runWhen (isRestart lowFor) (restart locks) dt s

/-- SUPPLY_SETTLED (R185). -/
def execSupplySettled (dt : Nat) (s : State) : Host.Outcome State Fault Refusal :=
  runWhen State.settles supplySettled dt s

/-- RESTART_INPUT_HIGH (R185). -/
def execRestartInputHigh (dt : Nat) (s : State) : Host.Outcome State Fault Refusal :=
  runWhen State.inputLow restartInputHigh dt s

/-- PROFILE_LOAD_COMPLETE (R187). -/
def execProfileLoadComplete (dt : Nat) (memory : List Byte) (locks : LockLevels) (s : State) :
    Host.Outcome State Fault Refusal :=
  runWhen State.loading (profileLoadComplete memory locks) dt s

/-- LISTEN_WINDOW_END (R189). -/
def execListenWindowEnd (dt : Nat) (s : State) : Host.Outcome State Fault Refusal :=
  runWhen State.windowOver listenWindowEnd dt s

/-- PEER_SILENCE_TIMEOUT (R190). -/
def execPeerSilenceTimeout (dt : Nat) (s : State) : Host.Outcome State Fault Refusal :=
  runWhen State.peersSilent enterIsolated dt s

/-- SUPPLY_LOSS (R33). -/
def execSupplyLoss (dt : Nat) (s : State) : Host.Outcome State Fault Refusal :=
  runWhen State.always supplyLoss dt s

end Sys2Proof.Machine
end

