-- ==== Sys2Proof/Machine/Door.lean ====
section
/-! DEFINITION. Door interlocks (09, R168 to R183): DOOR_EVENT, DOOR_UPDATE, DRIVE_STOP_END, DWELL_TIME_END and
DOOR_DEADLINE_PASSED. -/

namespace Sys2Proof.Machine

/-! ### Events (R169) -/

/-- The station owns a door of this number. -/
def State.ownsDoor (s : State) (door : Nat) : Bool := s.du.doors.any fun d => d.number == door

/-- An event is stamped and appended; at a full queue it is dropped and DOOR_EVENT_OVERRUN is raised (R169). -/
def doorEvent (door : Nat) (kind : DoorEventKind) (s : State) : State :=
  if Config.doorQueueDepth ≤ s.du.queue.length then s.raise .doorEventOverrun
  else { s with du := { s.du with queue := s.du.queue ++ [⟨s.now, door, kind⟩] } }

/-- Events of an owned door are taken from entry to LISTENING through ACTIVE and ISOLATED (R169). -/
def State.takesDoorEvent (door : Nat) (s : State) : Bool := s.runs && s.own.isAxle && s.ownsDoor door

/-! ### Transitions (R168) -/

/-- To UNLOCKING: the lock actuator is energised (R168, R171). -/
def Door.toUnlocking (d : Door) (now : Time) : Door :=
  { d with state := .unlocking, deadline := some (later now Config.lockDeadline), lockActuator := true, drive := .off }

/-- To RELEASED (R168, R172). -/
def Door.toReleased (d : Door) : Door :=
  { d with state := .released, deadline := none, lockActuator := true, drive := .off }

/-- To LOCKING: the lock actuator is de-energised, the open request cleared (R168, R172, R173, R176). -/
def Door.toLocking (d : Door) (now : Time) : Door :=
  { d with state := .locking, deadline := some (later now Config.lockDeadline), openRequest := false,
           lockActuator := false, drive := .off }

/-- To OPENING: the drive is set to OPEN, the open request cleared (R168, R173). -/
def Door.toOpening (d : Door) (now : Time) : Door :=
  { d with state := .opening, deadline := some (later now Config.driveDeadline), openRequest := false,
           lockActuator := true, drive := .opening }

/-- To OPEN: the drive is set to OFF, a held drive-stop end is cleared, the dwell starts (R168, R174, R177). -/
def Door.toOpened (d : Door) (now : Time) : Door :=
  { d with state := .opened, deadline := none, dwellStart := some now, driveStop := none,
           lockActuator := true, drive := .off }

/-- To CLOSING: the drive is set to CLOSE (R168, R175). -/
def Door.toClosing (d : Door) (now : Time) : Door :=
  { d with state := .closing, deadline := some (later now Config.driveDeadline), dwellStart := none,
           lockActuator := true, drive := .closing }

/-- To REVERSING: the drive is set to OFF until the drive-stop end, and the obstruction is counted (R168, R176). -/
def Door.toReversing (d : Door) (now : Time) : Door :=
  { d with state := .reversing, deadline := some (later now Config.reversingDeadline),
           driveStop := some (later now Config.driveStopTime), count := d.count + 1,
           lockActuator := true, drive := .off }

/-- To LOCKED (R168, R178). -/
def Door.toLocked (d : Door) : Door :=
  { d with state := .locked, deadline := none, count := 0, lockActuator := false, drive := .off }

/-- To FAULT: the report follows the lock switch (R168, R179). -/
def Door.toFault (d : Door) (lockSwitch : Bool) : Door :=
  { d with state := .fault, deadline := none, driveStop := none, openRequest := false,
           lockedFault := lockSwitch, lockActuator := false, drive := .off }

/-! ### Event steps (R170) -/

/-- The later of a dwell start and a beam interruption (R175). R175 does not say how two local times are compared: that
the later is the one at a positive signed modular difference, so that a dwell start more than 2^31 µs older than the
interruption is kept, is the model's choice (log entry 42). -/
def laterDwell (start : Option Time) (time : Time) : Option Time :=
  match start with
  | some t => if 0 < (time - t).toInt then some time else some t
  | none => some time

/-- One event step of the door it names: BUTTON in RELEASED, BEAM in OPEN and EDGE in CLOSING act; every other entry is
discarded (R171 to R179). -/
def Door.eventStep (d : Door) (now : Time) (e : DoorEvent) : Door :=
  match d.state, e.kind with
  | .released, .button => { d with openRequest := true }
  | .opened, .beam => { d with dwellStart := laterDwell d.dwellStart e.time }
  | .closing, .edge => d.toReversing now
  | _, _ => d

/-- A step turned a closing door back (R176). -/
def turnedBack (before after : Door) : Bool := decide (before.state = .closing) && decide (after.state = .reversing)

/-- The door after an entry of the queue, taken if it names the door (R170). -/
def Door.take (now : Time) (e : DoorEvent) (d : Door) : Door := if d.number = e.door then d.eventStep now e else d

/-- One entry of the queue is taken (R170). -/
def takeDoorEvent (s : State) (e : DoorEvent) : State :=
  State.raiseIf (s.du.doors.any fun d => turnedBack d (d.take s.now e)) .doorObstructed
    { s with du := { s.du with doors := s.du.doors.map (Door.take s.now e) } }

/-- The door event queue is emptied (R170). -/
def State.emptyDoorQueue (s : State) : State := { s with du := { s.du with queue := [] } }

/-- Every entry of the queue is taken, oldest first (R170). -/
def doorEventSteps (s : State) : State := s.du.queue.foldl takeDoorEvent s.emptyDoorQueue

/-! ### Periodic steps (R170 to R179) -/

/-- What the doors' periodic steps work from, read once at the update's start (R170). -/
structure DoorView where
  now : Time
  /-- The effective demand with its source (R48). -/
  demand : EffectiveDemand
  still : Bool
  allHeld : Bool
  level : LevelState
  /-- The dwell time in µs. -/
  dwell : Nat
deriving DecidableEq, Repr

/-- The reading of a door update (R170). -/
def State.doorView (s : State) : DoorView where
  now := s.now
  demand := s.effectiveDemand
  still := s.standstill
  allHeld := s.allHeldSince
  level := s.lu.level
  dwell := s.sc.prof.dwellMs * 1000

/-- The unlock conditions (R171). -/
def DoorView.mayUnlock (v : DoorView) (door : Nat) : Bool :=
  decide (v.demand.source = .fresh) && decide (v.demand.hold = .hold) && v.demand.release.contains door &&
    v.still && v.allHeld

/-- A RELEASED door is held shut for a kneel on its side (R173). -/
def DoorView.heldShut (v : DoorView) (side : Side) : Bool := decide (v.level = .kneeling) && v.demand.kneel.names side

/-- A movement that has not confirmed fails when its deadline has passed (R179). -/
def Door.orFault (d : Door) (v : DoorView) (i : DoorInputs) : Door :=
  if passed d.deadline v.now then d.toFault i.lockSwitch else d

/-- LOCKED: a lost bolt is a fault; otherwise the unlock (R171). -/
def Door.lockedStep (d : Door) (v : DoorView) (i : DoorInputs) : Door :=
  if !i.lockSwitch then d.toFault i.lockSwitch
  else if v.mayUnlock d.number then d.toUnlocking v.now
  else d

/-- UNLOCKING (R172). -/
def Door.unlockingStep (d : Door) (v : DoorView) (i : DoorInputs) : Door :=
  if i.unlockSwitch then
    if v.demand.release.contains d.number then d.toReleased else d.toLocking v.now
  else d.orFault v i

/-- RELEASED (R173). -/
def Door.releasedStep (d : Door) (v : DoorView) : Door :=
  if !v.demand.release.contains d.number then d.toLocking v.now
  else if v.heldShut d.side then d
  else if d.openRequest || v.demand.opens.contains d.number then d.toOpening v.now
  else d

/-- OPENING (R174). -/
def Door.openingStep (d : Door) (v : DoorView) (i : DoorInputs) : Door :=
  if i.openSwitch then d.toOpened v.now else d.orFault v i

/-- The dwell start after the beam reading of a periodic step (R175). -/
def Door.beamRead (d : Door) (v : DoorView) (i : DoorInputs) : Door :=
  if i.beam then { d with dwellStart := some v.now } else d

/-- An OPEN door closes: a clear latch, and either no release or a dwell that has run (R175). -/
def Door.mayClose (d : Door) (v : DoorView) : Bool :=
  !d.latch &&
    (!v.demand.release.contains d.number ||
      (!v.demand.opens.contains d.number && decide (v.demand.source ≠ .fallback) && lasted d.dwellStart v.dwell v.now))

/-- OPEN (R175). -/
def Door.openedStep (d : Door) (v : DoorView) (i : DoorInputs) : Door :=
  if (d.beamRead v i).mayClose v then (d.beamRead v i).toClosing v.now else d.beamRead v i

/-- CLOSING: the edge before the closed switch (R176). -/
def Door.closingStep (d : Door) (v : DoorView) (i : DoorInputs) : Door :=
  if i.edge then d.toReversing v.now
  else if i.closedSwitch then d.toLocking v.now
  else d.orFault v i

/-- REVERSING: at the third obstruction the latch is set on the way to OPEN (R177). -/
def Door.reversingStep (d : Door) (v : DoorView) (i : DoorInputs) : Door :=
  if i.openSwitch then
    { d.toOpened v.now with latch := d.latch || decide (Config.obstructionLimit ≤ d.count) }
  else d.orFault v i

/-- LOCKING (R178). -/
def Door.lockingStep (d : Door) (v : DoorView) (i : DoorInputs) : Door :=
  if i.lockSwitch then d.toLocked else d.orFault v i

/-- The report of a door in FAULT: by its lock switch (R179), and FAULT whatever the switch reads while the door is held for
the clear event (R182; log entry 40). -/
def Door.report (d : Door) (lockSwitch : Bool) : Door :=
  if d.state = .fault then { d with lockedFault := lockSwitch && !d.heldFault } else d

/-- The periodic step of one door in ACTIVE or ISOLATED (R170 to R179). -/
def Door.periodic (d : Door) (v : DoorView) (i : DoorInputs) : Door :=
  match d.state with
  | .locked => d.lockedStep v i
  | .unlocking => d.unlockingStep v i
  | .released => d.releasedStep v
  | .opening => d.openingStep v i
  | .opened => d.openedStep v i
  | .closing => d.closingStep v i
  | .reversing => d.reversingStep v i
  | .locking => d.lockingStep v i
  | .fault => d.report i.lockSwitch

/-- The periodic step in LISTENING: no transition, every output at its reset value (R170; log entry 21). -/
def Door.listening (d : Door) (i : DoorInputs) : Door :=
  { d.report i.lockSwitch with lockActuator := false, drive := .off }

/-- A step took a door to FAULT from a lock movement or by a lost bolt (R171, R179). -/
def lockFailed (before after : Door) : Bool :=
  decide (after.state = .fault) &&
    (decide (before.state = .locked) || decide (before.state = .unlocking) || decide (before.state = .locking))

/-- A step took a door to FAULT from a drive movement (R179). -/
def driveFailed (before after : Door) : Bool :=
  decide (after.state = .fault) &&
    (decide (before.state = .opening) || decide (before.state = .closing) || decide (before.state = .reversing))

/-- Act on the first door with the first inputs, on the second with the second. -/
def withInputs (f : Door → DoorInputs → Door) (first second : DoorInputs) : List Door → List Door
  | [] => []
  | [d] => [f d first]
  | d :: e :: rest => f d first :: f e second :: rest

/-- Some door's step satisfies a condition on the door before and after it. -/
def anyStep (p : Door → Door → Bool) (before after : List Door) : Bool := (before.zip after).any fun d => p d.1 d.2

/-- The periodic step of each door in ACTIVE or ISOLATED, with its events (R170, R171, R176, R179). -/
def doorPeriodic (v : DoorView) (first second : DoorInputs) (s : State) : State :=
  let after := withInputs (fun d i => d.periodic v i) first second s.du.doors
  let t := { s with du := { s.du with doors := after } }
  let t := t.raiseIf (anyStep lockFailed s.du.doors after) .doorLockFault
  let t := t.raiseIf (anyStep driveFailed s.du.doors after) .doorDriveFault
  t.raiseIf (anyStep turnedBack s.du.doors after) .doorObstructed

/-- The door update in LISTENING: every entry is discarded, no door moves (R170). -/
def doorListening (first second : DoorInputs) (s : State) : State :=
  { s with du := { s.du with queue := [], doors := withInputs Door.listening first second s.du.doors } }

/-- The door update (R170), the doors that lock leaving the frozen list (R49), and its next time (R4). -/
def doorUpdate (first second : DoorInputs) (s : State) : State :=
  let t :=
    if s.drives then doorPeriodic s.doorView first second (doorEventSteps s) else doorListening first second s
  let t := t.pruneFrozen
  { t with sched := { t.sched with door := some (later s.now Config.doorPeriod) } }

/-- A door update is due: at an axle station that owns doors (R170). -/
def State.doorDue (s : State) : Bool := s.runs && s.own.isAxle && passed s.sched.door s.now

/-! ### The drive stop (R177) -/

/-- A REVERSING door whose drive-stop end is reached. -/
def Door.stopOver (d : Door) (now : Time) : Bool := decide (d.state = .reversing) && passed d.driveStop now

/-- The drive is set to OPEN and the drive-stop end cleared (R177). -/
def Door.driveOpen (d : Door) : Door := { d with drive := .opening, driveStop := none }

/-- The drive stop of a door ends (R177). -/
def driveStopEnd (door : Nat) (s : State) : State :=
  { s with du := { s.du with
      doors := s.du.doors.map fun d => if d.number = door ∧ d.stopOver s.now = true then d.driveOpen else d } }

/-- The drive-stop end of the door is reached (R177). -/
def State.driveStopDue (door : Nat) (s : State) : Bool :=
  s.drives && s.own.isAxle && s.du.doors.any fun d => d.number == door && d.stopOver s.now

/-- The due door update finds the OPEN door's dwell time run (R175). -/
def State.dwellDue (door : Nat) (s : State) : Bool :=
  s.doorDue && s.du.doors.any fun d =>
    d.number == door && decide (d.state = .opened) && lasted d.dwellStart (s.sc.prof.dwellMs * 1000) s.now

/-- The due door update finds the door's deadline passed (R179). -/
def State.doorDeadlineDue (door : Nat) (s : State) : Bool :=
  s.doorDue && s.du.doors.any fun d => d.number == door && passed d.deadline s.now

/-! ### The commands -/

/-- DOOR_EVENT (R169). -/
def execDoorEvent (dt door : Nat) (kind : DoorEventKind) (s : State) : Host.Outcome State Fault Refusal :=
  runWhen (State.takesDoorEvent door) (doorEvent door kind) dt s

/-- DOOR_UPDATE (R170). -/
def execDoorUpdate (dt : Nat) (first second : DoorInputs) (s : State) : Host.Outcome State Fault Refusal :=
  runWhen State.doorDue (doorUpdate first second) dt s

/-- DRIVE_STOP_END (R177). -/
def execDriveStopEnd (dt door : Nat) (s : State) : Host.Outcome State Fault Refusal :=
  runWhen (State.driveStopDue door) (driveStopEnd door) dt s

/-- DWELL_TIME_END (R175): the door update that finds the door's dwell time run (log entry 2). -/
def execDwellTimeEnd (dt door : Nat) (first second : DoorInputs) (s : State) : Host.Outcome State Fault Refusal :=
  runWhen (State.dwellDue door) (doorUpdate first second) dt s

/-- DOOR_DEADLINE_PASSED (R179): the door update that finds the door's deadline passed (log entry 2). -/
def execDoorDeadlinePassed (dt door : Nat) (first second : DoorInputs) (s : State) :
    Host.Outcome State Fault Refusal :=
  runWhen (State.doorDeadlineDue door) (doorUpdate first second) dt s

end Sys2Proof.Machine
end

