-- ==== Sys2Proof/Machine/Hold.lean ====
section
/-! DEFINITION. Stop hold (07, R132 to R147): HOLD_UPDATE, CONFIRM_TIME_END, APPLY_FAULT_TIME_END and RELEASE_TIME_END. -/

namespace Sys2Proof.Machine

/-- The confirm level in kPa: truncate(hold pressure × 90 / 100) (R134). -/
def Profile.confirmLevel (p : Profile) : Nat := p.holdPressure * 90 / 100

/-- A brake pressure channel confirms: GOOD, with a value at or above the confirm level (R134). -/
def State.confirms (s : State) (i : Fin 8) : Bool :=
  match (s.channel i).goodReading with
  | some p => decide ((s.sc.prof.confirmLevel : Int) ≤ p)
  | none => false

/-- Both brake pressure channels confirm (R134). -/
def State.bothConfirm (s : State) : Bool := s.confirms 4 && s.confirms 5

/-- The confirm start after the confirmation measure, made in APPLYING alone (R134). -/
def State.confirmStartAfter (s : State) : Option Time :=
  if s.hu.state = .applying then (if s.bothConfirm then startOr s.hu.confirmStart s.now else none)
  else s.hu.confirmStart

/-- The hold has confirmed at this update (R134). -/
def State.holdConfirmed (s : State) : Bool :=
  decide (s.hu.state = .applying) && s.bothConfirm &&
    lasted (startOr s.hu.confirmStart s.now) Config.confirmTime s.now

/-- The fault check finds the apply failed (R137). -/
def State.applyFails (s : State) : Bool :=
  decide (s.hu.state = .applying) && !s.hu.latch && !s.holdConfirmed &&
    lasted s.hu.applyStart Config.applyFaultTime s.now

/-- The release conditions, with the HOLD latch as the fault check leaves it (R137, R140). -/
def State.releaseConditions (s : State) (latch : Bool) : Bool :=
  decide (s.effectiveDemand.hold = .none) && s.allDoorsLocked && decide (s.lu.level = .ride) && !latch

/-- To APPLYING: the valve is de-energised and the apply start is set (R135, R141). -/
def HoldUnit.toApplying (h : HoldUnit) (now : Time) : HoldUnit :=
  { h with state := .applying, applyStart := some now, confirmStart := none, releaseStart := none, valve := false }

/-- To RELEASING: the valve is energised and the release start is set (R140). -/
def HoldUnit.toReleasing (h : HoldUnit) (now : Time) : HoldUnit :=
  { h with state := .releasing, applyStart := none, confirmStart := none, releaseStart := some now, valve := true }

/-- To HELD (R136, R139). -/
def HoldUnit.toHeld (h : HoldUnit) : HoldUnit := { h with state := .held, confirmStart := none }

/-- The one hold transition of an update in ACTIVE or ISOLATED, from the unit as the measure and the fault check left
it (R135 to R141). -/
def State.holdTransition (s : State) (h : HoldUnit) (release : Bool) : HoldUnit :=
  match s.hu.state with
  | .off => if s.effectiveDemand.hold = .hold ∧ s.standstill = true then h.toApplying s.now else h
  | .applying => if release then h.toReleasing s.now else if s.holdConfirmed then h.toHeld else h
  | .held => if s.effectiveDemand.hold = .none then { h with state := .releasePending } else h
  | .releasePending =>
    if s.effectiveDemand.hold = .hold then h.toHeld
    else if release then h.toReleasing s.now
    else h
  | .releasing =>
    if s.effectiveDemand.hold = .hold then h.toApplying s.now
    else if lasted s.hu.releaseStart Config.releaseTime s.now then
      { h with state := .off, releaseStart := none }
    else h

/-- The only transition of an update in LISTENING: from APPLYING to HELD (R145). -/
def State.holdListening (s : State) (h : HoldUnit) : HoldUnit :=
  if s.holdConfirmed then h.toHeld else h

/-- The unit after the request is stored, the confirmation measure and the fault check (R133, R134, R137). -/
def State.holdMeasured (s : State) : HoldUnit :=
  { s.hu with
    request := some s.effectiveDemand.hold
    confirmStart := s.confirmStartAfter
    latch := s.hu.latch || s.applyFails }

/-- The hold unit after an update (R133). -/
def State.holdAfter (s : State) : HoldUnit :=
  if s.drives then s.holdTransition s.holdMeasured (s.releaseConditions s.holdMeasured.latch)
  else s.holdListening s.holdMeasured

/-- The hold update (R133), with HOLD_FAULT (R137), and its next time (R4). -/
def holdUpdate (s : State) : State :=
  let t := { s with hu := s.holdAfter }
  let t := t.raiseIf s.applyFails .holdFault
  { t with sched := { t.sched with hold := some (later s.now Config.holdPeriod) } }

/-- A hold update is due (R133). -/
def State.holdDue (s : State) : Bool := s.runs && s.own.isAxle && passed s.sched.hold s.now

/-- The due hold update finds the confirm time run (R134). -/
def State.confirmDue (s : State) : Bool := s.holdDue && s.holdConfirmed

/-- The due hold update finds the apply failed (R137). -/
def State.applyFaultDue (s : State) : Bool := s.holdDue && s.applyFails

/-- The due hold update finds the release time run (R141). -/
def State.releaseDue (s : State) : Bool :=
  s.holdDue && decide (s.hu.state = .releasing) && lasted s.hu.releaseStart Config.releaseTime s.now

/-- HOLD_UPDATE (R133). -/
def execHoldUpdate (dt : Nat) (s : State) : Host.Outcome State Fault Refusal :=
  runWhen State.holdDue holdUpdate dt s

/-- CONFIRM_TIME_END (R134): the hold update that finds the confirm time run (log entry 2). -/
def execConfirmTimeEnd (dt : Nat) (s : State) : Host.Outcome State Fault Refusal :=
  runWhen State.confirmDue holdUpdate dt s

/-- APPLY_FAULT_TIME_END (R137): the hold update that finds the apply failed (log entry 2). -/
def execApplyFaultTimeEnd (dt : Nat) (s : State) : Host.Outcome State Fault Refusal :=
  runWhen State.applyFaultDue holdUpdate dt s

/-- RELEASE_TIME_END (R141): the hold update that finds the release time run (log entry 2). -/
def execReleaseTimeEnd (dt : Nat) (s : State) : Host.Outcome State Fault Refusal :=
  runWhen State.releaseDue holdUpdate dt s

end Sys2Proof.Machine
end

