-- ==== Sys2Proof/Machine/Joint.lean ====
section
/-! DEFINITION. Joint guard (05, R96 to R108): JOINT_UPDATE, RISK_CLEAR_TIME_END, DAMPER_LOW_TIME_END and DAMPER_GOOD_TIME_END. -/

namespace Sys2Proof.Machine

/-! ### The expected angle and the joint state (R97 to R99) -/

/-- The position a spacing behind the newest point, the spacing being that of a neighbour axle; if the clamps have left the
joint without one, the spacing is a free value (R63; log entry 13). -/
def State.neighbourPosition (s : State) (spacing : Option Nat) : Option Dist :=
  s.position (spacing.getD Config.unplacedSpacing)

/-- s_front (R63). -/
def State.frontPosition (s : State) (r : JointRec) : Option Dist :=
  s.neighbourPosition (r.spacing.bind s.sc.prof.aheadSpacing)

/-- s_rear (R63). -/
def State.rearPosition (s : State) (r : JointRec) : Option Dist :=
  s.neighbourPosition (r.spacing.bind s.sc.prof.behindSpacing)

/-- θ_exp from the two tangents and the joint ratio (R98). -/
def expectedAngle (ratio : Nat) (front rear : Bau) : Int := roundDiv (angleDiff front rear * ratio) 256

/-- The expected angle, none if unavailable (R98). -/
def State.expected (s : State) (r : JointRec) : Option Int :=
  match s.leadingDirection, lookupAt (s.frontPosition r) s.pu.queue, lookupAt (s.rearPosition r) s.pu.queue with
  | some .forward, .value f, .value b => some (expectedAngle r.ratio f b)
  | _, _, _ => none

/-- The deviation e: the signed modular difference θ_meas − θ_exp (R98). -/
def deviation (measured expected : Int) : Int := angleDiff (BitVec.ofInt 16 measured) (BitVec.ofInt 16 expected)

/-- What one joint update works from: θ_meas, the joint state, and e in TRACKING (R97 to R99). -/
structure JointView where
  measured : Option Int
  state : JointState
  e : Int
deriving DecidableEq, Repr

/-- The joint state is selected afresh at every update (R99). -/
def State.jointView (s : State) (r : JointRec) : JointView :=
  match (s.channel 0).reading with
  | none => ⟨none, .fault, 0⟩
  | some m =>
    if s.leadingDirection = some .reverse then ⟨some m, .reverse, 0⟩
    else
      match s.expected r with
      | some x => ⟨some m, .tracking, deviation m x⟩
      | none => ⟨some m, .static, 0⟩

/-! ### The damper check and the end check (R104, R105) -/

/-- Low pressure: the command of the previous update was firm and the pressure is below 150 kPa (R105). At the first update in
ACTIVE or ISOLATED no update has written a command yet; that the reset command of 100 % (R107) counts as the one written before
is the model's choice (log entry 47). -/
def JointUnit.lowPressure (u : JointUnit) (pressure : Int) : Bool :=
  decide (Config.firmDamping ≤ u.damping) && decide (pressure < Config.damperPressure)

/-- The two damper starts at an update with a pressure value (R105). -/
def JointUnit.damperStarts (u : JointUnit) (now : Time) (pressure : Int) : JointUnit :=
  { u with
    lowStart := if u.lowPressure pressure then startOr u.lowStart now else none
    goodStart := if pressure < Config.damperPressure then none else startOr u.goodStart now }

/-- The damper-lost standing from the two starts (R105). -/
def JointUnit.damperStanding (u : JointUnit) (now : Time) : JointUnit :=
  if lasted u.lowStart Config.damperLowTime now then { u with damperLost := true, lowStart := none }
  else if u.damperLost && lasted u.goodStart Config.damperGoodTime now then { u with damperLost := false }
  else u

/-- The damper check (R105). -/
def JointUnit.damperCheck (u : JointUnit) (now : Time) (pressure : Option Int) : JointUnit :=
  match pressure with
  | some p => (u.damperStarts now p).damperStanding now
  | none => { u with lowStart := none, goodStart := none }

/-- The measured angle is beyond the end limit (R104). -/
def beyondEndLimit (r : JointRec) (measured : Int) : Bool := decide (r.endLimit < measured.natAbs)

/-- The beyond-end standing after the end check (R104). -/
def endCheck (r : JointRec) (measured : Option Int) (before : Bool) : Bool :=
  match measured with
  | some m => beyondEndLimit r m
  | none => before

/-! ### The risk flag (R100 to R102) -/

/-- An unknown reference speed counts as at least 1,400 mm/s (R100). -/
def atRiskSpeed (v : Option Nat) : Bool :=
  match v with
  | some v => decide (Config.riskSpeed ≤ v)
  | none => true

/-- An unknown reference speed counts as above 0 (R100). -/
def isMoving (v : Option Nat) : Bool :=
  match v with
  | some v => decide (0 < v)
  | none => true

/-- |θ_meas|, 0 where it is absent. -/
def JointView.magnitude (w : JointView) : Nat := (w.measured.getD 0).natAbs

/-- The set condition of the joint state (R100). -/
def riskSet (r : JointRec) (v : Option Nat) (w : JointView) : Bool :=
  match w.state with
  | .tracking => decide (r.eOn < w.e.natAbs) && atRiskSpeed v
  | .static => decide (r.staticLimit < w.magnitude) && atRiskSpeed v
  | .reverse => decide (r.reverseLimit < w.magnitude) && isMoving v
  | .fault => true

/-- The clear condition of the joint state (R101). The subtraction on natural numbers gives 0 where the level is below 0. -/
def riskClears (r : JointRec) (w : JointView) : Bool :=
  match w.state with
  | .tracking => decide (w.e.natAbs < r.eOff)
  | .static => decide (w.magnitude ≤ r.staticLimit - (r.eOn - r.eOff))
  | .reverse => decide (w.magnitude ≤ r.reverseLimit - (r.eOn - r.eOff))
  | .fault => false

/-- The risk-clear start an update finds: a change of joint state clears it (R101). -/
def JointUnit.startFor (u : JointUnit) (state : JointState) : Option Time :=
  if u.state = state then u.clearStart else none

/-- The risk flag and the risk-clear start after an update (R100, R101). -/
def JointUnit.settleRisk (u : JointUnit) (r : JointRec) (v : Option Nat) (w : JointView) (now : Time) : JointUnit :=
  if riskSet r v w || u.damperLost then { u with risk := true, clearStart := none }
  else if u.risk && riskClears r w then
    if lasted (startOr (u.startFor w.state) now) Config.riskClearTime now then { u with risk := false, clearStart := none }
    else { u with clearStart := startOr (u.startFor w.state) now }
  else { u with clearStart := none }

/-! ### Damping (R103) -/

/-- base(v) (R103); an unknown speed counts as v_hi. -/
def baseDamping (r : JointRec) (v : Option Nat) : Nat :=
  r.d0 + (r.d1 - r.d0) * min (v.getD r.vHi) r.vHi / r.vHi

/-- The damping command (R103). -/
def dampingCommand (r : JointRec) (v : Option Nat) (w : JointView) (beyondEnd : Bool) : Nat :=
  if beyondEnd then 100
  else
    clampNat r.d0 100
      (match w.state with
       | .tracking => baseDamping r v + w.e.natAbs * r.kd / 256
       | .static => max (baseDamping r v) Config.firmDamping
       | .reverse => max (baseDamping r v) Config.firmDamping
       | .fault => 100)

/-! ### The update (R96) -/

/-- The joint unit after an update in ACTIVE or ISOLATED: steps 2 to 6 of R96. -/
def JointUnit.update (u : JointUnit) (r : JointRec) (v : Option Nat) (w : JointView) (pressure : Option Int) (now : Time) :
    JointUnit :=
  let checked := u.damperCheck now pressure
  let beyond := endCheck r w.measured u.beyondEnd
  let settled := checked.settleRisk r v w now
  { settled with
    state := w.state
    angle := w.measured.getD 0
    beyondEnd := beyond
    damping := dampingCommand r v w beyond
    output := dampingCommand r v w beyond }

/-- The joint step in ACTIVE or ISOLATED, with its events (R96, R102, R104). -/
def jointStep (r : JointRec) (s : State) : State :=
  let u := s.ju.update r s.refSpeed (s.jointView r) (s.channel 1).reading s.now
  let t := { s with ju := u }
  let t := t.raiseIf (!s.ju.risk && u.risk) .jackknifeRisk
  t.raiseIf (!s.ju.beyondEnd && u.beyondEnd) .jointEnd

/-- The joint update: in LISTENING it only trims (R96), and its next time (R4). -/
def jointUpdate (s : State) : State :=
  match s.own.joint? with
  | some r =>
    let t := if s.drives then jointStep r s else s
    let t := t.trimQueue (s.rearPosition r)
    { t with sched := { t.sched with joint := some (later s.now Config.jointPeriod) } }
  | none => s

/-- A joint update is due (R96). -/
def State.jointDue (s : State) : Bool := s.runs && s.own.isJoint && passed s.sched.joint s.now

/-- The due joint update finds the risk-clear start 300,000 µs old (R101). -/
def State.riskClearDue (s : State) : Bool :=
  s.jointDue && s.drives && s.ju.risk && lasted s.ju.clearStart Config.riskClearTime s.now

/-- The due joint update finds the damper-low start 1,000,000 µs old (R105). -/
def State.damperLowDue (s : State) : Bool :=
  s.jointDue && s.drives && lasted s.ju.lowStart Config.damperLowTime s.now

/-- The due joint update finds the damper-good start 300,000 µs old while the damper is lost (R105). -/
def State.damperGoodDue (s : State) : Bool :=
  s.jointDue && s.drives && s.ju.damperLost && lasted s.ju.goodStart Config.damperGoodTime s.now

/-- JOINT_UPDATE (R96). -/
def execJointUpdate (dt : Nat) (s : State) : Host.Outcome State Fault Refusal :=
  runWhen State.jointDue jointUpdate dt s

/-- RISK_CLEAR_TIME_END (R101): the joint update that finds the risk-clear time run (log entry 2). -/
def execRiskClearTimeEnd (dt : Nat) (s : State) : Host.Outcome State Fault Refusal :=
  runWhen State.riskClearDue jointUpdate dt s

/-- DAMPER_LOW_TIME_END (R105): the joint update that finds the damper-low time run (log entry 2). -/
def execDamperLowTimeEnd (dt : Nat) (s : State) : Host.Outcome State Fault Refusal :=
  runWhen State.damperLowDue jointUpdate dt s

/-- DAMPER_GOOD_TIME_END (R105): the joint update that finds the damper-good time run (log entry 2). -/
def execDamperGoodTimeEnd (dt : Nat) (s : State) : Host.Outcome State Fault Refusal :=
  runWhen State.damperGoodDue jointUpdate dt s

end Sys2Proof.Machine
end

