-- ==== Sys2Proof/Machine/Level.lean ====
section
/-! DEFINITION. Ride height and kneeling (08, R150 to R166): LEVEL_UPDATE, PULSE_LIMIT_END, CLOSURE_COMPLETE,
SETTLE_TIME_END and SKIRT_CONTACT. -/

namespace Sys2Proof.Machine

/-! ### Heights and errors (R152) -/

/-- The deadband in mm (R152). -/
def deadband (standstill : Bool) : Int := if standstill then 4 else 8

/-- The half band in mm (R152). -/
def halfBand (standstill : Bool) : Int := if standstill then 2 else 4

/-- The height history with a sample appended; a full history loses its oldest sample (R152). -/
def Corner.appended (c : Corner) (v : Int) : List Int :=
  (if Config.historyDepth ≤ c.history.length then c.history.drop 1 else c.history) ++ [v]

/-- The mean of a list of samples, truncated (R152). -/
def meanOf (l : List Int) : Int := truncDiv l.sum l.length

/-- A corner takes a sample if its height channel presents a value, and forms its height (R152). -/
def Corner.sample (c : Corner) (value : Option Int) (standstill : Bool) : Corner :=
  match value with
  | some v =>
    { c with
      history := c.appended v
      height := some (if standstill then v else meanOf (c.appended v)) }
  | none => c

/-- The corner's error: height less target (R152). -/
def Corner.error (c : Corner) : Option Int := c.height.map (· - c.target)

/-- The corner's error satisfies a bound; a corner without a height satisfies none. -/
def Corner.errorIs (c : Corner) (p : Int → Bool) : Bool :=
  match c.error with
  | some e => p e
  | none => false

/-- The corner is within `band` mm of its target. -/
def Corner.within (c : Corner) (band : Int) : Bool := c.errorIs fun e => decide ((e.natAbs : Int) ≤ band)

/-- The corner is within its deadband of its target, or its floor bar is set (R157, R160, R161). -/
def Corner.atTarget (c : Corner) (band : Int) : Bool := c.within band || c.floorBar

/-! ### A corner's pulse (R153 to R156) -/

/-- What the step of a corner's phase works from. -/
structure CornerView where
  /-- The present local time. -/
  now : Time
  /-- STANDSTILL holds. -/
  still : Bool
  /-- The station is ACTIVE or ISOLATED and the abort pending is clear: a pulse may open. -/
  mayOpen : Bool
  /-- The height channel presents a value. -/
  seen : Bool
  /-- The spring pressure channel presents a value below the bellows floor. -/
  atFloor : Bool
  /-- The LEVEL latch as the update read it. -/
  latch : Bool
deriving DecidableEq, Repr

/-- The corner closes its pulse: the open valve is de-energised and the closure is in flight (R154). -/
def Corner.close (c : Corner) (now : Time) : Corner :=
  { c with phase := .closing, closureEnd := some (later now Config.valveCloseTime),
           fillValve := false, exhaustValve := false }

/-- The corner opens a fill pulse (R153). -/
def Corner.openFill (c : Corner) (now : Time) : Corner :=
  { c with phase := .filling, fillValve := true, pulseStart := some now, pulseHeight := c.height,
           unchecked := true }

/-- The corner opens an exhaust pulse (R153). -/
def Corner.openExhaust (c : Corner) (now : Time) : Corner :=
  { c with phase := .exhausting, exhaustValve := true, pulseStart := some now, pulseHeight := c.height,
           unchecked := true }

/-- A corner goes to FAULT, its valves closed; a closure in flight stays in flight (R156). R150 takes the air of every valve told
to close as moving for 40,000 µs, and R156 names no closure end for a corner that enters FAULT from FILLING or EXHAUSTING: that
none is stored for the valve it closes is the model's choice (log entry 45). -/
def Corner.toFault (c : Corner) (cause : FaultCause) : Corner :=
  { c with phase := .fault, cause := cause, fillValve := false, exhaustValve := false }

/-- The floor bar is cleared within the deadband, below the target, or with a spring not at its floor (R153). -/
def Corner.clearBar (c : Corner) (v : CornerView) : Corner :=
  if c.within (deadband v.still) || c.errorIs (fun e => decide (e < 0)) || !v.atFloor then { c with floorBar := false }
  else c

/-- STEADY: a pulse opens outside the deadband; an exhaust pulse is barred at the bellows floor (R153). That the floor bar
is not set while no pulse may open, an abort pending among it, is the model's choice (log entry 37). -/
def Corner.steadyStep (c : Corner) (v : CornerView) : Corner :=
  if v.mayOpen && c.errorIs (fun e => decide (e < -(deadband v.still))) then c.openFill v.now
  else if v.mayOpen && c.errorIs (fun e => decide (deadband v.still < e)) then
    if v.atFloor then { c with floorBar := true } else c.openExhaust v.now
  else c

/-- The pulse has run its limit (R154). -/
def Corner.pulseOver (c : Corner) (now : Time) : Bool := lasted c.pulseStart Config.pulseLimit now

/-- FILLING closes from minus the half band on, or at the pulse limit (R154). -/
def Corner.fillingStep (c : Corner) (v : CornerView) : Corner :=
  if c.errorIs (fun e => decide (-(halfBand v.still) ≤ e)) || c.pulseOver v.now then c.close v.now else c

/-- EXHAUSTING closes at or below the half band, at the bellows floor, or at the pulse limit (R154). -/
def Corner.exhaustingStep (c : Corner) (v : CornerView) : Corner :=
  if c.errorIs (fun e => decide (e ≤ halfBand v.still)) || v.atFloor || c.pulseOver v.now then c.close v.now else c

/-- The last pulse moved the corner by less than 2 mm; none if every pulse since the reset has had its check, which a
pulse has once (R155, R156; log entry 35). -/
def Corner.stalled (c : Corner) : Option Bool :=
  match c.unchecked, c.height, c.pulseHeight with
  | true, some h, some p => some (decide ((h - p).natAbs < Config.progressMovement))
  | _, _, _ => none

/-- The progress counter after the progress check (R155). -/
def Corner.checkedProgress (c : Corner) : Nat :=
  match c.stalled with
  | some true => c.progress + 1
  | some false => 0
  | none => c.progress

/-- The settle time has run (R155). -/
def Corner.settled (c : Corner) (now : Time) : Bool := lasted c.settleStart Config.settleTime now

/-- SETTLING: once settled, the progress check, which the pulse has then had, and STEADY, or FAULT with cause TIMEOUT at
the limit (R155). -/
def Corner.settlingStep (c : Corner) (v : CornerView) : Corner :=
  if c.settled v.now then
    if Config.progressLimit ≤ c.checkedProgress then
      { c.toFault .timeout with progress := Config.progressLimit, unchecked := false }
    else { c with phase := .steady, progress := c.checkedProgress, unchecked := false }
  else c

/-- A corner in FAULT may leave it: CHANNEL with a value, TIMEOUT with a value and the LEVEL latch clear (R156). -/
def Corner.mayLeave (c : Corner) (v : CornerView) : Bool :=
  match c.cause with
  | .timeout => v.seen && !v.latch
  | .channel => v.seen
  | .none => v.seen

/-- FAULT: the corner leaves to SETTLING when it may (R156). A pulse whose check took it there is not checked again, so a
corner that does not respond times out after four more pulses. -/
def Corner.faultStep (c : Corner) (v : CornerView) : Corner :=
  if c.mayLeave v then
    { c with phase := .settling, settleStart := some v.now, progress := 0, cause := .none }
  else c

/-- One step of a corner's phase (R153 to R156). -/
def Corner.phaseStep (c : Corner) (v : CornerView) : Corner :=
  match c.phase with
  | .fault => c.faultStep v
  | .steady => if v.seen then c.steadyStep v else c.toFault .channel
  | .filling => if v.seen then c.fillingStep v else c.toFault .channel
  | .exhausting => if v.seen then c.exhaustingStep v else c.toFault .channel
  | .closing => if v.seen then c else c.toFault .channel
  | .settling => if v.seen then c.settlingStep v else c.toFault .channel

/-- One step of a corner: its floor bar, then its phase; at the first update after a restart that kept the LEVEL latch
it goes to FAULT with cause TIMEOUT instead (R153 to R156, R165; log entry 18). -/
def Corner.step (c : Corner) (v : CornerView) (restartFault : Bool) : Corner :=
  if restartFault then (c.clearBar v).toFault .timeout else (c.clearBar v).phaseStep v

/-! ### What an update reads (R151) -/

/-- The height channel of a side: channel 0 is the left one (R14, R150). -/
def heightChannel : Side → Fin 8
  | .left => 0
  | .right => 1

/-- The spring pressure channel of a side (R14, R150). -/
def springChannel : Side → Fin 8
  | .left => 2
  | .right => 3

/-- The height channel's value on a side. -/
def State.heightValue (s : State) (side : Side) : Option Int := (s.channel (heightChannel side)).reading

/-- The spring pressure is below the bellows floor of 100 kPa (R153). -/
def State.springAtFloor (s : State) (side : Side) : Bool :=
  match (s.channel (springChannel side)).reading with
  | some p => decide (p < Config.bellowsFloor)
  | none => false

/-- What one corner's step works from, the abort pending as the update's skirt reading left it. -/
def State.cornerView (s : State) (side : Side) : CornerView where
  now := s.now
  still := s.standstill
  mayOpen := s.drives && !s.lu.abort
  seen := (s.heightValue side).isSome
  atFloor := s.springAtFloor side
  latch := s.lu.levelLatch

/-! ### Kneeling (R158 to R161) -/

/-- The kneel target: ride height less kneel drop, or the kneel floor if that is higher (R159). -/
def Profile.kneelTarget (p : Profile) : Int := max (p.rideHeight - p.kneelDrop) p.kneelFloor

/-- Step 2: both corners sampled (R152). -/
def State.sampledLevel (s : State) : LevelUnit :=
  { s.lu with
    left := s.lu.left.sample (s.heightValue .left) s.standstill
    right := s.lu.right.sample (s.heightValue .right) s.standstill }

/-- Step 3: the kneel latch is cleared if the request read is NONE (R163). -/
def State.latchedLevel (s : State) : LevelUnit :=
  { s.sampledLevel with
    kneelLatch := if s.effectiveDemand.kneel = .none then false else s.lu.kneelLatch }

/-- A kneel begins (R158). -/
def State.kneelBegins (s : State) (skirt : Bool) : Bool :=
  decide (s.effectiveDemand.kneel ≠ .none) && s.hu.state.isHeld && s.standstill && !s.latchedLevel.kneelLatch &&
    !s.lu.abort && !skirt && decide (s.lu.left.phase ≠ .fault) && decide (s.lu.right.phase ≠ .fault)

/-- Every named corner is within ±5 mm of its target or at its bellows floor (R160). -/
def LevelUnit.lowEnough (l : LevelUnit) : Bool :=
  (!l.sides.names .left || l.left.atTarget Config.kneltBand) &&
    (!l.sides.names .right || l.right.atTarget Config.kneltBand)

/-- A corner stands STEADY within its deadband of the ride height, or with its floor bar set (R161). -/
def Corner.atRide (c : Corner) (rideHeight : Nat) (band : Int) : Bool :=
  decide (c.phase = .steady) && { c with target := rideHeight }.atTarget band

/-- Both corners are at ride height (R161). -/
def State.bodyUp (s : State) (l : LevelUnit) : Bool :=
  l.left.atRide s.sc.prof.rideHeight (deadband s.standstill) &&
    l.right.atRide s.sc.prof.rideHeight (deadband s.standstill)

/-- Step 4: at most one transition of the kneel phase, with the kneel sides; none in LISTENING, with the abort pending,
or in the update at which the contact acted (R151, R158, R160, R161, R164; log entry 16). -/
def State.kneelStep (s : State) (skirt acted : Bool) : KneelPhase × KneelRequest :=
  let l := s.latchedLevel
  if !s.drives || l.abort || acted then (l.kneel, l.sides)
  else
    match l.kneel with
    | .kneeling =>
      if s.effectiveDemand.kneel = .none then (.raising, .none)
      else if l.lowEnough then (.knelt, l.sides) else (.kneeling, l.sides)
    | .knelt => if s.effectiveDemand.kneel = .none then (.raising, .none) else (.knelt, l.sides)
    | .none => if s.kneelBegins skirt then (.kneeling, s.effectiveDemand.kneel) else (.none, l.sides)
    | .raising =>
      if s.kneelBegins skirt then (.kneeling, s.effectiveDemand.kneel)
      else if s.bodyUp l then (.none, l.sides)
      else (.raising, l.sides)

/-- The target of a corner in a kneel phase (R159). -/
def Profile.cornerTarget (p : Profile) (kneel : KneelPhase) (sides : KneelRequest) (side : Side) : Int :=
  if kneel.lowered && sides.names side then p.kneelTarget else p.rideHeight

/-- Step 5: the kneel phase as the transition left it, and each corner's target (R159). -/
def State.targetedLevel (s : State) (skirt acted : Bool) : LevelUnit :=
  let l := s.latchedLevel
  let k := s.kneelStep skirt acted
  { l with
    kneel := k.1
    sides := k.2
    left := { l.left with target := s.sc.prof.cornerTarget k.1 k.2 .left }
    right := { l.right with target := s.sc.prof.cornerTarget k.1 k.2 .right } }

/-! ### The end of an update (R157, R161) -/

/-- A corner enters FAULT. -/
def entersFault (before after : Corner) : Bool := decide (before.phase ≠ .fault) && decide (after.phase = .fault)

/-- A corner enters FAULT with cause TIMEOUT by its progress check (R155). -/
def timesOut (before after : Corner) : Bool :=
  decide (before.phase = .settling) && decide (after.phase = .fault) && decide (after.cause = .timeout)

/-- Step 6: one step of each corner, the LEVEL latch of a timeout, and the end of a kneel by a corner fault (R153 to
R156, R161). -/
def LevelUnit.stepCorners (l : LevelUnit) (left right : CornerView) : LevelUnit :=
  let a := l.left.step left l.restartFault
  let b := l.right.step right l.restartFault
  let ends := (entersFault l.left a || entersFault l.right b) && l.kneel.lowered && !l.abort
  { l with
    left := a
    right := b
    levelLatch := l.levelLatch || (!l.restartFault && (timesOut l.left a || timesOut l.right b))
    kneel := if ends then .raising else l.kneel
    sides := if ends then .none else l.sides
    restartFault := false }

/-- The travel remaining of a corner: its error while it is named and the phase is KNEELING or KNELT (R152; log entry 17). -/
def Corner.withTravel (c : Corner) (named : Bool) : Corner := { c with travel := if named then c.error else none }

/-- The level state of a unit that stands still (R157). -/
def LevelUnit.levelState (l : LevelUnit) (still : Bool) : LevelState :=
  if l.left.phase = .fault ∨ l.right.phase = .fault then .fault
  else
    match l.kneel with
    | .kneeling => .kneeling
    | .knelt => .knelt
    | .raising => .raising
    | .none =>
      if l.left.phase = .steady ∧ l.right.phase = .steady ∧
          l.left.atTarget (deadband still) = true ∧ l.right.atTarget (deadband still) = true then .ride
      else .levelling

/-- Step 7: the travel remaining and the level state (R152, R157). -/
def LevelUnit.finish (l : LevelUnit) (still : Bool) : LevelUnit :=
  { l with
    left := l.left.withTravel (l.kneel.lowered && l.sides.names .left)
    right := l.right.withTravel (l.kneel.lowered && l.sides.names .right)
    level := l.levelState still }

/-- The level unit after an update whose skirt reading has been acted on (R151). -/
def State.levelAfter (s : State) (skirt acted : Bool) : LevelUnit :=
  let l := s.targetedLevel skirt acted
  let l := { l with restartFault := l.restartFault && l.levelLatch }
  (l.stepCorners (s.cornerView .left) (s.cornerView .right)).finish s.standstill

/-! ### The skirt contact (R162) -/

/-- A corner whose exhaust is open closes it (R162). -/
def Corner.stopExhaust (c : Corner) (now : Time) : Corner := if c.phase = .exhausting then c.close now else c

/-- A closure is in flight on either corner. -/
def LevelUnit.closureInFlight (l : LevelUnit) : Bool := l.left.closureEnd.isSome || l.right.closureEnd.isSome

/-- A corner at the ride height's target, named for no kneel. -/
def Corner.forRide (c : Corner) (rideHeight : Nat) : Corner := { c with target := rideHeight, travel := none }

/-- The abort resolves: the kneel phase goes to RAISING and both corners take the ride height (R162; log entry 15). -/
def LevelUnit.resolveAbort (l : LevelUnit) (rideHeight : Nat) : LevelUnit :=
  { l with
    abort := false
    kneel := .raising
    sides := .none
    left := l.left.forRide rideHeight
    right := l.right.forRide rideHeight
    level := if l.left.phase = .fault ∨ l.right.phase = .fault then .fault else .raising }

/-- A pending abort resolves when no closure remains in flight (R162). -/
def LevelUnit.settleAbort (l : LevelUnit) (rideHeight : Nat) : LevelUnit :=
  if l.abort && !l.closureInFlight then l.resolveAbort rideHeight else l

/-- The contact would act: the kneel phase is KNEELING or KNELT and the abort pending is clear (R162). -/
def State.skirtListens (s : State) : Bool := s.lu.kneel.lowered && !s.lu.abort

/-- The level unit after the contact has acted (R162). -/
def State.contactLevel (s : State) : LevelUnit :=
  LevelUnit.settleAbort
    { s.lu with
      left := s.lu.left.stopExhaust s.now
      right := s.lu.right.stopExhaust s.now
      kneelLatch := true
      abort := true }
    s.sc.prof.rideHeight

/-- The skirt contact acts (R162). -/
def skirtContact (s : State) : State := State.raise .kneelAborted (s.setLevel s.contactLevel)

/-! ### The updates -/

/-- A level update times out a corner (R155). -/
def State.cornerTimesOut (s : State) (skirt acted : Bool) : Bool :=
  !(s.lu.restartFault && s.lu.levelLatch) &&
    (timesOut s.lu.left (s.levelAfter skirt acted).left || timesOut s.lu.right (s.levelAfter skirt acted).right)

/-- The level update after its skirt reading, and its next time by STANDSTILL (R151). -/
def levelStep (skirt acted : Bool) (s : State) : State :=
  let t := s.setLevel (s.levelAfter skirt acted)
  let t := t.raiseIf (s.cornerTimesOut skirt acted) .levelTimeout
  { t with sched := { t.sched with
      level := some (later s.now (if s.standstill then Config.levelPeriodStill else Config.levelPeriodMoving)) } }

/-- The level update (R151). -/
def levelUpdate (skirt : Bool) (s : State) : State :=
  if skirt && s.skirtListens then levelStep skirt true (skirtContact s) else levelStep skirt false s

/-- A level update is due (R151). -/
def State.levelDue (s : State) : Bool := s.runs && s.own.isAxle && passed s.sched.level s.now

/-- The due level update finds the corner's pulse at its limit (R154). -/
def State.pulseLimitDue (side : Side) (s : State) : Bool :=
  s.levelDue &&
    (decide ((s.lu.corner side).phase = .filling) || decide ((s.lu.corner side).phase = .exhausting)) &&
    (s.lu.corner side).pulseOver s.now

/-- The due level update finds the corner's settle time run (R155). -/
def State.settleDue (side : Side) (s : State) : Bool :=
  s.levelDue && decide ((s.lu.corner side).phase = .settling) && (s.lu.corner side).settled s.now

/-- A corner's closure completes: CLOSING goes to SETTLING with the closure end as its settle start; a corner that went to
FAULT meanwhile stays there (R154, R156). That a completed closure clears the closure end is the model's choice (log entry 48),
and so is that a corner in FAULT keeps its settle start (log entry 38). -/
def Corner.closed (c : Corner) : Corner :=
  if c.phase = .closing then { c with phase := .settling, settleStart := c.closureEnd, closureEnd := none }
  else { c with closureEnd := none }

/-- Set the corner on a side. -/
def LevelUnit.setCorner (l : LevelUnit) (side : Side) (c : Corner) : LevelUnit :=
  match side with
  | .left => { l with left := c }
  | .right => { l with right := c }

/-- The corner's closure end is reached (R154). -/
def State.closureDue (side : Side) (s : State) : Bool :=
  s.runs && s.own.isAxle && passed (s.lu.corner side).closureEnd s.now

/-- The closure of a corner completes, and with it a pending abort whose last closure it was (R154, R162). -/
def closureComplete (side : Side) (s : State) : State :=
  s.setLevel ((s.lu.setCorner side (s.lu.corner side).closed).settleAbort s.sc.prof.rideHeight)

/-- The contact becomes active at a station whose level unit runs, during a kneel (R162). -/
def State.skirtDue (s : State) : Bool := s.runs && s.own.isAxle && s.skirtListens

/-- LEVEL_UPDATE (R151). -/
def execLevelUpdate (dt : Nat) (skirt : Bool) (s : State) : Host.Outcome State Fault Refusal :=
  runWhen State.levelDue (levelUpdate skirt) dt s

/-- PULSE_LIMIT_END (R154): the level update that finds the corner's pulse at its limit (log entry 2). -/
def execPulseLimitEnd (dt : Nat) (corner : Side) (skirt : Bool) (s : State) : Host.Outcome State Fault Refusal :=
  runWhen (State.pulseLimitDue corner) (levelUpdate skirt) dt s

/-- CLOSURE_COMPLETE (R154). -/
def execClosureComplete (dt : Nat) (corner : Side) (s : State) : Host.Outcome State Fault Refusal :=
  runWhen (State.closureDue corner) (closureComplete corner) dt s

/-- SETTLE_TIME_END (R155): the level update that finds the corner's settle time run (log entry 2). -/
def execSettleTimeEnd (dt : Nat) (corner : Side) (skirt : Bool) (s : State) : Host.Outcome State Fault Refusal :=
  runWhen (State.settleDue corner) (levelUpdate skirt) dt s

/-- SKIRT_CONTACT (R162). -/
def execSkirtContact (dt : Nat) (s : State) : Host.Outcome State Fault Refusal :=
  runWhen State.skirtDue skirtContact dt s

end Sys2Proof.Machine
end

