-- ==== Sys2Proof/Machine/Peer.lean ====
section
/-! DEFINITION. The peer view's events (02, R39 to R51) and station control's valid-peer reports (R189, R190): what an accepted
frame does, STATUS_EXPIRY, DEMAND_EXPIRY and STALE_EPISODE_BEGIN. -/

namespace Sys2Proof.Machine

/-! ### Accepting a STATUS (R40, R41, R45, R61) -/

/-- Put a STATUS record into a peer's entry, whole, with its arrival time (R40). -/
def storeStatus (n : Fin 8) (r : StatusRec) (arrival : Time) (s : State) : State :=
  { s with pv := { s.pv with
      peers := s.pv.peers.set n
        { status := some r, arrival := arrival, freshness := .fresh, lastSignature := some r.signature } } }

/-- The received signature newly disagrees with the own one (R41). -/
def State.newlyDisagrees (s : State) (n : Fin 8) (r : StatusRec) : Bool :=
  decide (r.signature ≠ s.sc.signature) && decide ((s.pv.peers[n]).lastSignature ≠ some r.signature)

/-- The last-moving stamp after a STATUS has been stored: its arrival time if it shows motion; the present local time
if the set of known speeds has gone from empty to not empty (R45; log entry 11). -/
def stampMotion (wasEmpty : Bool) (r : StatusRec) (arrival : Time) (s : State) : State :=
  let moving := match r.speed? with
    | some v => decide (0 < v)
    | none => false
  { s with pv := { s.pv with
      lastMoving :=
        if wasEmpty && !s.knownSpeeds.isEmpty then some s.now
        else if moving then some arrival else s.pv.lastMoving } }

/-- A STATUS is accepted from peer `n` (R40, R41, R45, R61). -/
def acceptStatus (n : Fin 8) (r : StatusRec) (arrival : Time) (s : State) : State :=
  let t := s.raiseIf (s.newlyDisagrees n r) .profileMismatch
  pathLeadingReport n r (stampMotion s.knownSpeeds.isEmpty r arrival (storeStatus n r arrival t))

/-! ### Accepting a DEMAND (R42, R46, R49, R51) -/

/-- The hold-request start after a DEMAND (R46), from the record it replaces (log entry 9). -/
def holdStartAfter (before : DemandItem) (start : Option Time) (r : DemandRec) (arrival : Time) : Option Time :=
  match r.hold with
  | .none => none
  | .hold =>
    match before.freshness, before.record with
    | .fresh, some b => if b.hold = .hold then start else some arrival
    | _, _ => some arrival

/-- A DEMAND is accepted from station 0: the hold-request rule, the record, the end of a stale episode, and the
clear-count rule (R42, R46, R49, R51). -/
def acceptDemand (locks : LockLevels) (r : DemandRec) (arrival : Time) (s : State) : State :=
  clearCountRule locks r.clear
    { s with pv := { s.pv with
        holdStart := holdStartAfter s.pv.demand s.pv.holdStart r arrival
        demand := ⟨some r, arrival, .fresh⟩
        episode := false
        frozen := [] } }

/-! ### Accepting a NOTICE (R192) -/

/-- Set the last-notice time of a group. -/
def Telltales.note (t : Telltales) (at_ : Time) : Group → Telltales
  | .steer => { t with steer := { t.steer with last := some at_ } }
  | .brake => { t with brake := { t.brake with last := some at_ } }
  | .joint => { t with joint := { t.joint with last := some at_ } }
  | .level => { t with level := { t.level with last := some at_ } }
  | .door => { t with door := { t.door with last := some at_ } }
  | .station => { t with station := { t.station with last := some at_ } }

/-- A notice arrival at the CAB: the last-notice time of each group its kinds belong to (R192). -/
def noteNotice (kinds : List EventKind) (at_ : Time) (s : State) : State :=
  if s.isCab then
    { s with cu := { s.cu with telltales := kinds.foldl (fun t k => t.note at_ k.group) s.cu.telltales } }
  else s

/-! ### Handing an accepted frame on (R27) -/

/-- The own path unit takes a PATH frame at a following axle or a joint and drops it elsewhere (R27, R62). -/
def acceptPath (p : PathPoint) (s : State) : State := if s.keepsQueue then pathIntake p s else s

/-- An accepted frame goes to its unit as a whole (R27). -/
def handOn (locks : LockLevels) (n : Fin 8) (f : Frame) (arrival : Time) (s : State) : State :=
  match f with
  | .status r => acceptStatus n r arrival s
  | .path p => acceptPath p s
  | .demand r => acceptDemand locks r arrival s
  | .notice ks => noteNotice ks arrival s

/-- A valid peer frame is reported to station control: the heard flag in LISTENING, the last-peer stamp, and the
return from ISOLATED to ACTIVE (R189, R190). -/
def reportPeer (arrival : Time) (s : State) : State :=
  { s with sc := { s.sc with
      heard := if s.sc.station = .listening then true else s.sc.heard
      lastPeer := some arrival
      station := if s.sc.station = .isolated then .active else s.sc.station } }

/-! ### Expiries -/

/-- A peer's STATUS record goes STALE and PEER_STALE is raised as LINK_LOSS if the peer is listed present (R36, R40). -/
def statusExpiry (n : Fin 8) (s : State) : State :=
  State.raiseIf (s.sc.prof.station n).isPresent .linkLoss
    { s with pv := { s.pv with
        peers := s.pv.peers.set n { s.pv.peers[n] with freshness := .stale } } }

/-- A peer's record is FRESH and its age exceeds three STATUS periods (R40). -/
def State.statusExpired (n : Fin 8) (s : State) : Bool :=
  s.runs && decide (n ≠ s.sc.strap) && decide ((s.pv.peers[n]).freshness = .fresh) &&
    decide (s.sc.prof.statusLimit < age s.now (s.pv.peers[n]).arrival)

/-- The DEMAND record goes STALE (R42). -/
def demandExpiry (s : State) : State :=
  { s with pv := { s.pv with demand := { s.pv.demand with freshness := .stale } } }

/-- The DEMAND record is FRESH and its age exceeds 30,000 µs; the CAB's own entry does not expire (R39, R42). -/
def State.demandExpired (s : State) : Bool :=
  s.runs && !s.isCab && decide (s.pv.demand.freshness = .fresh) &&
    decide (Config.demandLimit < age s.now s.pv.demand.arrival)

/-- A stale episode begins: the frozen release list is set and FALLBACK_STOP is raised (R49). -/
def staleEpisodeBegin (s : State) : State :=
  State.raise .fallbackStop
    { s with pv := { s.pv with episode := true, frozen := s.frozenList } }

/-- The DEMAND record is STALE beyond the grace time and no episode has begun (R49). -/
def State.episodeDue (s : State) : Bool :=
  s.runs && !s.pv.episode && decide (s.demandFreshness = .stale) &&
    decide (Config.graceLimit < age s.now s.pv.demand.arrival)

/-- STATUS_EXPIRY (R40). -/
def execStatusExpiry (dt : Nat) (peer : Fin 8) (s : State) : Host.Outcome State Fault Refusal :=
  runWhen (State.statusExpired peer) (statusExpiry peer) dt s

/-- DEMAND_EXPIRY (R42). -/
def execDemandExpiry (dt : Nat) (s : State) : Host.Outcome State Fault Refusal :=
  runWhen State.demandExpired demandExpiry dt s

/-- STALE_EPISODE_BEGIN (R49). -/
def execStaleEpisodeBegin (dt : Nat) (s : State) : Host.Outcome State Fault Refusal :=
  runWhen State.episodeDue staleEpisodeBegin dt s

end Sys2Proof.Machine
end

