-- ==== Sys2Proof/Machine/Line.lean ====
section
/-! DEFINITION. The line interface (02, R22 to R38): the receive half, medium access by wait rank, and the requests. -/

namespace Sys2Proof.Machine

/-! ### The receive half (R23, R25, R28) -/

/-- The line interface works: in LISTENING, ACTIVE, ISOLATED and INERT (R25, R191). -/
def State.lineWorks (s : State) : Bool := s.runs || decide (s.sc.station = .inert)

/-- The bit time in µs (R22). -/
def State.bitTime (s : State) : Nat := s.sc.prof.bitTime

/-- The receive half is outside a frame again, the line quiet from the present moment (R25). -/
def State.quietNow (s : State) : State :=
  { s with li := { s.li with frame := none, quiet := some s.now, lastChar := s.now } }

/-- A stop bit is not at the idle level: the line stands at the active level, and is busy (R23, R25). -/
def State.lineHeld (s : State) : State := { s with li := { s.li with lineActive := true, quiet := none } }

/-- A character whose stop bit is bad: a frame being received ends as bad and any other character is discarded; the line is
busy until it is at the idle level again (R23, R25). -/
def badChar (s : State) : State := State.lineHeld { s with li := { s.li with frame := none, lastChar := s.now } }

/-- A character outside a frame, its stop bit good: a start character opens one, any other is discarded (R23). -/
def outsideChar (char : Byte) (s : State) : State :=
  if char = Config.startChar then
    { s with li := { s.li with frame := some [], quiet := none, lastChar := s.now } }
  else s.quietNow

/-- The characters of a frame are complete: header, body and CRC (R23). -/
def frameComplete (chars : List Byte) : Bool :=
  decide (3 ≤ chars.length) && decide (chars.length = 5 + byteAt chars 2)

/-- A character inside a frame that holds `chars`, its stop bit good: a body length above 25 ends the frame as bad (R23). -/
def insideChar (chars : List Byte) (char : Byte) (s : State) : State :=
  let all := chars ++ [char]
  if all.length = 3 ∧ Config.maxBody < char.toNat then s.quietNow
  else if frameComplete all then
    let t := s.quietNow
    { t with li := { t.li with complete := some ⟨all, s.now⟩ } }
  else { s with li := { s.li with frame := some all, quiet := none, lastChar := s.now } }

/-- More than 20 bit times have passed since the last character (R23). -/
def State.gapPassed (s : State) : Bool := decide (Config.idleBits * s.bitTime < age s.now s.li.lastChar)

/-- The leading edge of a start bit: the line is busy and the quiet time is over, so a pending frame defers (R25, R31); an
idle wait begins again (R25); a frame whose gap it ends too late is bad (R23). The characters on the line while the station
sends are its own (R28); a start bit inside a character is none (log entry 23), and so is one on a line that already stands at
the active level, which has no leading edge to show (log entry 43). -/
def startBit (s : State) : State :=
  if s.li.startBit.isSome || s.li.lineActive then s
  else
    match s.li.mode with
    | .off => s
    | .waiting _ => { s with li := { s.li with mode := .waiting s.now, startBit := some s.now } }
    | .taking =>
      match s.li.sending with
      | some _ => s
      | none =>
        { s with li := { s.li with
            startBit := some s.now
            quiet := none
            frame := if s.gapPassed then none else s.li.frame } }

/-- The character that was arriving has been taken. -/
def State.charTaken (s : State) : State := { s with li := { s.li with startBit := none } }

/-- A character has been taken from the line, at its end: in the idle wait it only restarts the wait (R25); outside a frame
and inside one by R23. A character of which no start bit was seen is not taken, but its bad stop bit still shows the line at the
active level (log entries 23 and 43); none is taken while the station sends (R28). -/
def characterTaken (char : Byte) (stopGood : Bool) (s : State) : State :=
  match s.li.mode with
  | .off => if stopGood then s else { s with li := { s.li with lineActive := true } }
  | .waiting _ =>
    { s with li := { s.li with
        mode := .waiting s.now, startBit := none, lineActive := s.li.lineActive || !stopGood } }
  | .taking =>
    match s.li.sending, s.li.startBit with
    | some _, _ => s
    | none, none => if stopGood then s else s.lineHeld
    | none, some _ =>
      if stopGood then
        match s.li.frame with
        | none => outsideChar char s.charTaken
        | some chars => insideChar chars char s.charTaken
      else badChar s.charTaken

/-- The line returns to the idle level after a bad stop bit: the idle wait counts from here, and so does the quiet time outside
a frame (R25). That the quiet time counts from here, when the line is no longer busy, and not from the end of the character, is
the model's choice (log entry 43). -/
def lineIdle (s : State) : State :=
  let t := { s with li := { s.li with lineActive := false } }
  if s.li.lineActive then
    match s.li.mode with
    | .off => t
    | .waiting _ => { t with li := { t.li with mode := .waiting s.now } }
    | .taking =>
      match s.li.sending, s.li.frame with
      | none, none => { t with li := { t.li with quiet := some s.now } }
      | _, _ => t
  else s

/-- The level of the line while the line interface does not work: the input shows it all the same, so that the idle wait counts
idle line only (R25). -/
def State.lineSeen (instant : CharacterInstant) (s : State) : State :=
  match instant with
  | .startBit => s
  | .stopBit good => if good then s else { s with li := { s.li with lineActive := true } }
  | .lineIdle => { s with li := { s.li with lineActive := false } }

/-- CHARACTER_RECEIVED's effect at each instant of the character (R23, R25, R28). -/
def characterReceived (char : Byte) (instant : CharacterInstant) (s : State) : State :=
  if s.lineWorks then
    match instant with
    | .startBit => startBit s
    | .stopBit good => characterTaken char good s
    | .lineIdle => lineIdle s
  else s.lineSeen instant

/-- A frame is open, no character is arriving, and more than 20 bit times of idle line have passed since the last one (R23). -/
def State.gapDue (s : State) : Bool :=
  s.lineWorks && s.li.frame.isSome && s.li.startBit.isNone && !s.li.lineActive && s.gapPassed

/-- The frame ends as bad; the quiet time counts from the instant the gap passed 20 bit times (R23, R25). -/
def frameGapTimeout (s : State) : State :=
  { s with li := { s.li with
      frame := none
      quiet := some (later s.li.lastChar (Config.idleBits * s.bitTime)) } }

/-- The wait for 20 bit times of idle line is over: no character is arriving, and the line is at the idle level (R25). -/
def State.idleWaitDue (s : State) : Bool :=
  s.lineWorks && s.li.startBit.isNone && !s.li.lineActive &&
    match s.li.mode with
    | .waiting since => decide (Config.idleBits * s.bitTime ≤ age s.now since)
    | .off => false
    | .taking => false

/-- The receive half takes start characters from now on; the quiet time counts from the start of the idle stretch (R25). -/
def idleWaitComplete (s : State) : State :=
  match s.li.mode with
  | .waiting since => { s with li := { s.li with mode := .taking, quiet := some since } }
  | .off => s
  | .taking => s

/-! ### A complete frame (R27, R29) -/

/-- The arrival time: the detection of the last CRC character less the ingress latency (R29). -/
def State.arrivalOf (s : State) (f : CompleteFrame) : Time :=
  f.detected - BitVec.ofNat 32 s.sc.prof.latency

/-- What becomes of a judged frame (R27). -/
def applyVerdict (locks : LockLevels) (arrival : Time) (v : Verdict) (s : State) : State :=
  match v with
  | .discarded => s
  | .malformed => s.raise .malformedFrame
  | .unlisted => s.raise .unlistedStation
  | .duplicate =>
    if s.sc.station = .listening then
      enterInert locks
        { s.raise .duplicateStation with sc := { (s.raise .duplicateStation).sc with duplicate := true } }
    else s.raise .duplicateStation
  | .accepted n f => reportPeer arrival (handOn locks n f arrival s)

/-- A complete frame is checked, stamped, and accepted or discarded; in INERT no frame is checked (R27, R38, R191). -/
def frameReceived (locks : LockLevels) (s : State) : State :=
  match s.li.complete with
  | none => s
  | some f =>
    let t := { s with li := { s.li with complete := none } }
    if s.runs then applyVerdict locks (s.arrivalOf f) (judge s.sc.prof s.sc.strap f.chars) t else t

/-! ### Sending (R30 to R33, R37) -/

/-- The wait rank of a kind sent by a station (R30). -/
def waitRank (kind : FrameKind) (n : Fin 8) : Nat :=
  match kind with
  | .demand => 1
  | .path => 2
  | .status => 3 + n.val
  | .notice => 11 + n.val

/-- The present moment is the start of a slot of this rank in some round of the quiet time (R30). -/
def State.inSlot (s : State) (rank : Nat) : Bool :=
  match s.li.quiet with
  | some q =>
    age s.now q % (Config.roundSlots * Config.slotBits * s.bitTime) == rank * Config.slotBits * s.bitTime
  | none => false

/-- The kinds a station may send in its state (R33). -/
def StationState.sends (st : StationState) (kind : FrameKind) : Bool :=
  match kind with
  | .status => st.runs || decide (st = .inert)
  | .notice => st.runs || decide (st = .inert)
  | .path => st.drives
  | .demand => st.drives

/-- The body a frame of this kind takes at this moment; none without a point or a DEMAND record (R32, R37). -/
def State.bodyNow (s : State) (kind : FrameKind) : Option (List Byte) :=
  match kind with
  | .status => some s.ownStatus.body
  | .path => s.pu.newest.map PathPoint.body
  | .demand => s.pv.demand.record.map fun r => { r with seq := s.li.demandSeq }.body
  | .notice => some (noticeBody s.li.summary)

/-- The frame is in flight: it has left the transmit set and the line is busy (R25, R32, R33). -/
def launch (kind : FrameKind) (body : List Byte) (s : State) : State :=
  { s with li := { s.li with
      pending := s.li.pending.set false kind
      quiet := none
      sending := some
        { kind := kind, chars := Config.startChar :: frameChars kind s.sc.strap body, start := s.now } } }

/-- What else begins with a frame: the sequences advance (R32), a NOTICE empties the summary (R37) and counts as a notice
arrival at the CAB (R192). A STATUS of an INERT axle station has drawn a free value (log entry 12). -/
def afterLaunch (kind : FrameKind) (s : State) : State :=
  match kind with
  | .status =>
    { s with
      li := { s.li with statusSeq := s.li.statusSeq + 1 }
      draws := if s.own.isAxle && decide (s.sc.station = .inert) then s.draws + 1 else s.draws }
  | .demand => { s with li := { s.li with demandSeq := s.li.demandSeq + 1 } }
  | .notice =>
    noteNotice s.li.summary s.now { s with li := { s.li with summary := [] } }
  | .path => s

/-- A frame of this kind begins (R31, R32). -/
def frameBegin (kind : FrameKind) (s : State) : State :=
  match s.bodyNow kind with
  | some body => afterLaunch kind (launch kind body s)
  | none => s

/-- A frame of this kind may begin now: it is pending, the state sends it, nothing is in flight or being received, no start
bit has made the line busy and it is at the idle level, and its slot starts now on a quiet line (R25, R31, R33). With several frames pending, R31 says that
the one of lowest wait rank begins first, and that each begins at the first slot of its own rank: where the slot of the lowest
rank has passed in this round already, a pending frame of higher rank begins at its slot of the same round, the model's choice
(log entry 44). -/
def State.mayBegin (kind : FrameKind) (s : State) : Bool :=
  s.sc.station.sends kind && s.li.pending.has kind && decide (s.li.mode = .taking) &&
    s.li.sending.isNone && s.li.frame.isNone && s.li.startBit.isNone && !s.li.lineActive &&
    s.inSlot (waitRank kind s.sc.strap) && (s.bodyNow kind).isSome

/-- The own frame has been sent whole (R33). -/
def State.sentWhole (s : State) : Bool :=
  match s.li.sending with
  | some f => decide (f.chars.length * Config.charBits * s.bitTime ≤ age s.now f.start)
  | none => false

/-- The end of the own frame sets the quiet time (R25, R28). -/
def transmitComplete (s : State) : State :=
  { s with li := { s.li with sending := none, quiet := some s.now, lastChar := s.now } }

/-! ### Requests (R34, R37) -/

/-- A STATUS is requested each STATUS period (R34), in INERT too (R191). -/
def statusRequest (s : State) : State :=
  State.request .status
    { s with sched := { s.sched with status := some (later s.now s.sc.prof.statusPeriod) } }

/-- A STATUS request is due (R34). -/
def State.statusDue (s : State) : Bool := s.lineWorks && passed s.sched.status s.now

/-- At the notice interval a NOTICE is requested if the summary is not empty (R37). -/
def noticeInterval (s : State) : State :=
  let t := { s with sched := { s.sched with notice := some (later s.now s.sc.prof.noticePeriod) } }
  if s.li.summary.isEmpty then t else t.request .notice

/-- A notice interval is due (R37). -/
def State.noticeDue (s : State) : Bool := s.runs && passed s.sched.notice s.now

/-! ### The commands -/

/-- CHARACTER_RECEIVED (R23, R25): taken in every state, since the line shows its level whether or not the interface works. -/
def execCharacterReceived (dt : Nat) (char : Byte) (instant : CharacterInstant) (s : State) :
    Host.Outcome State Fault Refusal :=
  runWhen State.always (characterReceived char instant) dt s

/-- FRAME_RECEIVED (R27). -/
def execFrameReceived (dt : Nat) (locks : LockLevels) (s : State) : Host.Outcome State Fault Refusal :=
  runWhen State.lineWorks (frameReceived locks) dt s

/-- FRAME_GAP_TIMEOUT (R23). -/
def execFrameGapTimeout (dt : Nat) (s : State) : Host.Outcome State Fault Refusal :=
  runWhen State.gapDue frameGapTimeout dt s

/-- IDLE_WAIT_COMPLETE (R25). -/
def execIdleWaitComplete (dt : Nat) (s : State) : Host.Outcome State Fault Refusal :=
  runWhen State.idleWaitDue idleWaitComplete dt s

/-- FRAME_BEGIN (R31). -/
def execFrameBegin (dt : Nat) (kind : FrameKind) (s : State) : Host.Outcome State Fault Refusal :=
  runWhen (State.mayBegin kind) (frameBegin kind) dt s

/-- TRANSMIT_COMPLETE (R33). -/
def execTransmitComplete (dt : Nat) (s : State) : Host.Outcome State Fault Refusal :=
  runWhen State.sentWhole transmitComplete dt s

/-- STATUS_REQUEST (R34). -/
def execStatusRequest (dt : Nat) (s : State) : Host.Outcome State Fault Refusal :=
  runWhen State.statusDue statusRequest dt s

/-- NOTICE_INTERVAL (R37). -/
def execNoticeInterval (dt : Nat) (s : State) : Host.Outcome State Fault Refusal :=
  runWhen State.noticeDue noticeInterval dt s

end Sys2Proof.Machine
end

