-- ==== Sys2Proof/Machine/Pulse.lean ====
section
/-! DEFINITION. Pulse capture (01, R5 to R13): WHEEL_EDGE, SPEED_UPDATE and ZERO_SPEED_TIMEOUT. -/

namespace Sys2Proof.Machine

/-- Append an edge to a wheel's snapshot queue, the oldest entry leaving a full queue (R7). -/
def Wheel.append (w : Wheel) (e : Snapshot) : Wheel :=
  { w with queue := (if Config.snapshotDepth ≤ w.queue.length then w.queue.drop 1 else w.queue) ++ [e] }

/-- Set the wheel on a side. -/
def PulseCapture.setWheel (p : PulseCapture) (side : Side) (w : Wheel) : PulseCapture :=
  match side with
  | .left => { p with left := w }
  | .right => { p with right := w }

/-- The edge joins its wheel's queue; a full queue raises SNAPSHOT_OVERRUN (R7). -/
def recordEdge (wheel : Side) (direction : Direction) (s : State) : State :=
  let w := s.pc.wheel wheel
  State.raiseIf (decide (Config.snapshotDepth ≤ w.queue.length)) .snapshotOverrun
    { s with pc := s.pc.setWheel wheel (w.append ⟨s.now, direction⟩) }

/-- Half the pulse pitch of the own axle, as a distance (R6). -/
def State.halfPitch (s : State) : Dist :=
  match s.own.axle? with
  | some r => BitVec.ofNat 32 (r.pitch / 2)
  | none => 0

/-- An edge at the leading axle: the path odometer, its restart after reversing, and the path unit (R8, R12, R58). R8 sets the
axle direction at each edge taken, and R11 says that it stands until the next speed update: that it changes at the edge is the
model's choice (log entry 46). -/
def leadingEdge (direction : Direction) (s : State) : State :=
  match direction with
  | .forward =>
    match s.pc.direction with
    | .reverse =>
      pathOdometerChanged <| pathRestart
        { s with pc := { s.pc with direction := .forward, pathOdo := s.halfPitch } }
    | .forward =>
      pathOdometerChanged { s with pc := { s.pc with pathOdo := s.pc.pathOdo + s.halfPitch } }
  | .reverse => pathReverse { s with pc := { s.pc with direction := .reverse } }

/-- An edge at a following axle: the own odometer and the lag check (R8, R13, R68). The axle direction changes at the edge, as at
the leading axle (log entry 46). -/
def followingEdge (direction : Direction) (s : State) : State :=
  match direction with
  | .forward =>
    lagCheck { s with pc := { s.pc with direction := .forward, ownOdo := s.pc.ownOdo + s.halfPitch } }
  | .reverse => { s with pc := { s.pc with direction := .reverse } }

/-- A wheel-pulse edge is taken (R7, R8, R12, R13). -/
def wheelEdge (wheel : Side) (direction : Direction) (s : State) : State :=
  let t := recordEdge wheel direction s
  if s.own.isLeading then leadingEdge direction t else followingEdge direction t

/-- Pulse capture takes edges and makes speed updates: at an AXLE station from entry to LISTENING (R5). -/
def State.capturesPulses (s : State) : Bool := s.own.isAxle && s.runs

/-- The wheel speed over a span: (n − 1) × pitch × 1,000,000 / span, truncated, clamped to 65,535 (R9). -/
def spanSpeed (n pitch span : Nat) : Nat := min ((n - 1) * pitch * 1000000 / span) 65535

/-- The newest edge of a queue is older than the zero-speed timeout (R9). -/
def Wheel.timedOut (now : Time) (w : Wheel) : Bool :=
  match w.queue.getLast? with
  | some e => decide (Config.zeroSpeedTimeout < age now e.time)
  | none => false

/-- A wheel at a speed update: the cases of R9 in their order. -/
def Wheel.update (now : Time) (pitch : Nat) (w : Wheel) : Wheel :=
  match w.queue.head?, w.queue.getLast? with
  | some oldest, some newest =>
    if w.timedOut now then ⟨[], 0⟩
    else if 2 ≤ w.queue.length ∧ 0 < age newest.time oldest.time then
      ⟨[newest], spanSpeed w.queue.length pitch (age newest.time oldest.time)⟩
    else w
  | _, _ => ⟨[], 0⟩

/-- The pulse pitch of the own axle in mm (R6). -/
def State.pitch (s : State) : Nat :=
  match s.own.axle? with
  | some r => r.pitch
  | none => 0

/-- The speed update (R9, R11, R45), and its next time (R4). -/
def speedUpdate (s : State) : State :=
  let l := s.pc.left.update s.now s.pitch
  let r := s.pc.right.update s.now s.pitch
  let v := (l.speed + r.speed) / 2
  { s with
    pc := { s.pc with left := l, right := r, axleSpeed := v }
    pv := { s.pv with lastMoving := if 0 < v then some s.now else s.pv.lastMoving }
    sched := { s.sched with speed := some (later s.now Config.speedPeriod) } }

/-- A speed update is due (R4). -/
def State.speedDue (s : State) : Bool := s.capturesPulses && passed s.sched.speed s.now

/-- WHEEL_EDGE (R7). -/
def execWheelEdge (dt : Nat) (wheel : Side) (direction : Direction) (s : State) :
    Host.Outcome State Fault Refusal :=
  runWhen State.capturesPulses (wheelEdge wheel direction) dt s

/-- SPEED_UPDATE (R9). -/
def execSpeedUpdate (dt : Nat) (s : State) : Host.Outcome State Fault Refusal :=
  runWhen State.speedDue speedUpdate dt s

/-- The speed update is due and finds this wheel's newest edge older than the timeout. -/
def State.zeroSpeedDue (wheel : Side) (s : State) : Bool :=
  s.speedDue && (s.pc.wheel wheel).timedOut s.now

/-- ZERO_SPEED_TIMEOUT (R9): the speed update that finds the wheel's newest edge older than 400,000 µs (log entry 2). -/
def execZeroSpeedTimeout (dt : Nat) (wheel : Side) (s : State) : Host.Outcome State Fault Refusal :=
  runWhen (State.zeroSpeedDue wheel) speedUpdate dt s

end Sys2Proof.Machine
end

