-- ==== Sys2Proof/Machine/Scan.lean ====
section
/-! DEFINITION. The converter scan (01, R14 to R21): SCAN_START and CONVERSION_COMPLETE. -/

namespace Sys2Proof.Machine

/-- A code from 16 to 1007 is plausible (R16). -/
def plausible (code : BitVec 10) : Bool := decide (16 ≤ code.toNat) && decide (code.toNat ≤ 1007)

/-- The corrected value of a code: round((code − 512) × gain / 256) + offset, clamped to the range (R17). -/
def corrected (cal : ChannelCal) (range : Int × Int) (code : BitVec 10) : Int :=
  clampInt range.1 range.2 (roundDiv (((code.toNat : Int) - 512) * cal.gain) 256 + cal.offset)

/-- The trial's bits `n` to 0 are settled from the top, against the level of the input: a bit stays set if the trial does
not stand above the input, and the bit below it is set for the next trial (R15). -/
def settleBits (input : Nat) : Nat → Nat → Nat
  | 0, trial => if trial ≤ input then trial else trial - 1
  | n + 1, trial => settleBits input n ((if trial ≤ input then trial else trial - 2 ^ (n + 1)) + 2 ^ n)

/-- The completed conversion's code: the trial with its ten bits settled (R15, R16). -/
def Conversion.code (c : Conversion) (input : BitVec 10) : BitVec 10 :=
  BitVec.ofNat 10 (settleBits input.toNat 9 c.trial.toNat)

/-- A completion moves the channel record: the table of R18. -/
def Channel.complete (c : Channel) (code : BitVec 10) (new : Int) : Channel :=
  match c.condition, plausible code with
  | .good, true => ⟨code, some new, .good, 0, 0⟩
  | .good, false => ⟨code, c.value, .holding, 1, 0⟩
  | .holding, false =>
    if c.holdCount ≤ 8 then ⟨code, c.value, .holding, c.holdCount + 1, 0⟩ else ⟨code, none, .failed, 10, 0⟩
  | .holding, true =>
    if c.goodCount ≤ 3 then ⟨code, c.value, .holding, c.holdCount, c.goodCount + 1⟩
    else ⟨code, some new, .good, 0, 0⟩
  | .failed, false => ⟨code, none, .failed, 10, 0⟩
  | .failed, true =>
    if c.goodCount ≤ 3 then ⟨code, none, .failed, 10, c.goodCount + 1⟩ else ⟨code, some new, .good, 0, 0⟩

/-- The channel selected after channel `i` of a scan of `count` channels (R15). -/
def nextChannel (i : Fin 8) (count : Nat) : Option (Fin 8) :=
  if h : i.val + 1 < 8 then (if i.val + 1 < count then some ⟨i.val + 1, h⟩ else none) else none

/-- The conversion of channel `i` completes: the record is written and moved, CHANNEL_HOLD or CHANNEL_FAIL is raised,
the next channel is selected, and a yaw completion is handed to the leading axle's path unit (R15, R16, R18, R20). -/
def completeConversion (i : Fin 8) (code : BitVec 10) (s : State) : State :=
  let before := s.channel i
  let after := before.complete code
    (corrected (s.sc.prof.calibration s.own i.val) (channelRange s.own i.val) code)
  let t := { s with cs := { channels := s.cs.channels.set i after, conv := (nextChannel i s.own.channelCount).map Conversion.select } }
  let t := t.raiseIf (decide (before.condition = .good) && decide (after.condition = .holding)) .channelHold
  let t := t.raiseIf (decide (before.condition = .holding) && decide (after.condition = .failed)) .channelFail
  if s.own.isLeading ∧ i = 7 then yawCompletion after t else t

/-- CONVERSION_COMPLETE's effect: nothing without a conversion in flight. -/
def conversionComplete (input : BitVec 10) (s : State) : State :=
  match s.cs.conv with
  | some c => completeConversion c.channel (c.code input) s
  | none => s

/-- A conversion is in flight at a station that scans (R15, R21). -/
def State.converting (s : State) : Bool := s.runs && s.cs.conv.isSome

/-- A scan is due (R15). -/
def State.scanDue (s : State) : Bool := s.runs && passed s.sched.scan s.now

/-- A scan begins with the role's lowest channel (R15). -/
def scanStart (s : State) : State :=
  { s with
    cs := { s.cs with conv := firstConversion s.own }
    sched := { s.sched with scan := some (later s.now Config.scanPeriod) } }

/-- SCAN_START (R15). -/
def execScanStart (dt : Nat) (s : State) : Host.Outcome State Fault Refusal :=
  runWhen State.scanDue scanStart dt s

/-- CONVERSION_COMPLETE (R16). -/
def execConversionComplete (dt : Nat) (input : BitVec 10) (s : State) : Host.Outcome State Fault Refusal :=
  runWhen State.converting (conversionComplete input) dt s

end Sys2Proof.Machine
end

