-- ==== Sys2Proof/Machine/Steer.lean ====
section
/-! DEFINITION. Following-axle steering (04, R70 to R95): STEERING_UPDATE, LOCK_RELEASE_TIME_END, CENTRING_SETTLE_END and
TRACKING_TIME_END. -/

namespace Sys2Proof.Machine

/-! ### The follow conditions (R73) -/

/-- Condition 2: the leading axle's STATUS is FRESH, ACTIVE or ISOLATED, and shows FORWARD. -/
def State.leaderForward (s : State) : Bool :=
  match s.sc.prof.leading.bind s.freshStatus with
  | some r => r.station.drives && decide (s.leadingDirection = some .forward)
  | none => false

/-- Condition 3: the angle of every joint in J_k is known. -/
def State.anglesKnown (s : State) (r : AxleRec) : Bool :=
  (s.sc.prof.jointsOf r).all fun j => (s.jointAngle j.1).isSome

/-- Condition 8: the reference speed is known and below v2. -/
def State.belowV2 (s : State) : Bool :=
  match s.refSpeed with
  | some v => decide (v < s.sc.prof.v2)
  | none => false

/-- The eight follow conditions (R73). -/
def State.followConditions (s : State) (r : AxleRec) : Bool :=
  decide (s.sc.station = .active) && s.leaderForward && s.anglesKnown r && s.profileAgreement &&
    !s.su.latch && (s.channel 6).reading.isSome && !s.pu.lagStands && s.belowV2

/-! ### The follow command (R82 to R88) -/

/-- The own position s_k (R63). -/
def State.axlePosition (s : State) (r : AxleRec) : Option Dist := r.spacing.bind s.position

/-- The sum of the known angles of the joints in J_k (R82). -/
def State.angleSum (s : State) (r : AxleRec) : Int :=
  ((s.sc.prof.jointsOf r).map fun j => (s.jointAngle j.1).getD 0).sum

/-- Ψ of the newest point (R66). -/
def State.psiNewest (s : State) : Bau :=
  match newestPoint s.pu.queue with
  | some p => p.section_
  | none => 0

/-- The heading of the axle's section ψ_k (R82). -/
def State.sectionHeading (s : State) (r : AxleRec) : Bau := s.psiNewest - BitVec.ofInt 16 (s.angleSum r)

/-- δ_cd: the raw steer angle in cdeg (R83). -/
def rawSteer (tangent heading : Bau) : Int := roundDiv (angleDiff tangent heading * 36000) 65536

/-- δ_g: the follow gain applied (R84). -/
def gainSteer (gain : Nat) (d : Int) : Int := roundDiv (d * gain) 256

/-- The limit of R85 from the reference speed. -/
def speedLimit (p : Profile) (v : Option Nat) : Nat :=
  match v with
  | none => 0
  | some v =>
    if v ≤ p.v1 then p.fullLimit
    else if v < p.v2 then p.fullLimit * (p.v2 - v) / (p.v2 - p.v1)
    else 0

/-- The limit L of R85, lowered by R86 while the body is not at ride height. -/
def State.steerLimit (s : State) : Nat :=
  if s.lu.level = .ride then speedLimit s.sc.prof s.refSpeed
  else min (speedLimit s.sc.prof s.refSpeed) s.sc.prof.kneelLimit

/-- One rate step of R toward a target (R87). -/
def rateStep (rate : Nat) (previous target : Int) : Int :=
  if (target - previous).natAbs ≤ rate then target
  else if previous < target then previous + rate
  else previous - rate

/-- The follow command from a previous command, with the lookup's tangent (R82 to R87). -/
def State.followCommand (s : State) (r : AxleRec) (tangent : Bau) (previous : Int) : Int :=
  rateStep s.sc.prof.rateStep previous
    (clampInt (-(s.steerLimit : Int)) s.steerLimit
      (gainSteer r.followGain (rawSteer tangent (s.sectionHeading r))))

/-- The held command (R88). -/
def State.heldCommand (s : State) (previous : Int) : Int :=
  rateStep s.sc.prof.rateStep previous (clampInt (-(s.steerLimit : Int)) s.steerLimit previous)

/-! ### The tracking check (R89, R90) -/

/-- The states the tracking check is made in (R89). -/
def SteerState.tracked : SteerState → Bool
  | .following => true
  | .holding => true
  | .centring => true
  | .leading => false
  | .locked => false
  | .lockRelease => false

/-- The measured angle differs from the command by more than the tracking band (R89). -/
def State.offTrack (s : State) : Bool :=
  s.su.state.tracked && !s.su.latch &&
    match (s.channel 6).reading with
    | some m => decide (Config.trackingBand < ((m - s.su.command).natAbs : Int))
    | none => false

/-- The tracking check: the tracking start, and after 300,000 µs STEER_FAULT and the STEER latch (R89, R90). -/
def trackingCheck (s : State) : State :=
  if s.offTrack then
    if lasted (startOr s.su.trackStart s.now) Config.trackingTime s.now then
      State.raise .steerFault { s with su := { s.su with trackStart := none, latch := true } }
    else { s with su := { s.su with trackStart := startOr s.su.trackStart s.now } }
  else { s with su := { s.su with trackStart := none } }

/-! ### The transitions (R74 to R81) -/

/-- FOLLOWING, with the follow command from the present command (R87). -/
def State.toFollowing (s : State) (r : AxleRec) (tangent : Bau) : SteeringUnit :=
  { s.su with state := .following, command := s.followCommand r tangent s.su.command,
              releaseStart := none, zeroStart := none }

/-- HOLDING, with the held command (R88). -/
def State.toHolding (s : State) : SteeringUnit :=
  { s.su with state := .holding, command := s.heldCommand s.su.command, releaseStart := none }

/-- CENTRING, with one centring step; the zero-command start is stored when the command first reaches 0 (R78). -/
def State.toCentring (s : State) : SteeringUnit :=
  let c := rateStep s.sc.prof.rateStep s.su.command 0
  { s.su with state := .centring, command := c, releaseStart := none,
              zeroStart := if c = 0 then startOr s.su.zeroStart s.now else s.su.zeroStart }

/-- LOCKED, the lock engaging (R79, R80). -/
def State.toLocked (s : State) : SteeringUnit :=
  { s.su with state := .locked, command := 0, zeroStart := none }

/-- The lock may engage: the measured angle lies in the lock band, or without one the settle time has run (R79, R80). -/
def State.lockMayEngage (s : State) : Bool :=
  match (s.channel 6).reading with
  | some m => decide ((m.natAbs : Int) ≤ Config.lockBand)
  | none => lasted s.su.zeroStart Config.centringSettleTime s.now

/-- The one transition and the new command of a steering update, given whether the follow conditions hold and what the
lookup gives (R74 to R81). -/
def State.steerTransition (s : State) (r : AxleRec) (conditions : Bool) (found : Lookup) : SteeringUnit :=
  match s.su.state with
  | .leading => s.su
  | .locked =>
    match conditions, found with
    | true, .value _ => { s.su with state := .lockRelease, command := 0, releaseStart := some s.now }
    | _, _ => { s.su with command := 0 }
  | .lockRelease =>
    if lasted s.su.releaseStart Config.lockReleaseTime s.now then
      match conditions, found with
      | true, .value t => s.toFollowing r t
      | true, .brk => s.toHolding
      | _, _ => s.toCentring
    else s.su
  | .following =>
    match conditions, found with
    | true, .value t => s.toFollowing r t
    | true, .brk => s.toHolding
    | _, _ => s.toCentring
  | .holding =>
    match conditions, found with
    | true, .value t => s.toFollowing r t
    | true, .brk => s.toHolding
    | _, _ => s.toCentring
  | .centring =>
    match conditions, found with
    | true, .value t => s.toFollowing r t
    | _, _ => if s.su.command = 0 ∧ s.lockMayEngage = true then s.toLocked else s.toCentring

/-- The outputs: the set-point follows the command, the lock valve is energised in every state but LOCKED (R71, R95). -/
def SteeringUnit.drive (u : SteeringUnit) : SteeringUnit :=
  { u with setPoint := u.command, lockValve := decide (u.state ≠ .locked) }

/-- The steering update after its tracking check: one transition, the command, the outputs, and the trim (R67, R71). -/
def steerStep (r : AxleRec) (s : State) : State :=
  let found := lookupAt (s.axlePosition r) s.pu.queue
  State.trimQueue (s.axlePosition r)
    { s with su := (s.steerTransition r (s.followConditions r) found).drive }

/-- The steering update (R71), and its next time (R4). -/
def steeringUpdate (s : State) : State :=
  match s.own.axle? with
  | some r =>
    let t := steerStep r (trackingCheck s)
    { t with sched := { t.sched with steering := some (later s.now Config.steeringPeriod) } }
  | none => s

/-- A steering update is due: at a following axle that runs (R71). -/
def State.steeringDue (s : State) : Bool := s.runs && s.own.isFollowing && passed s.sched.steering s.now

/-- The due steering update finds the lock release time run (R75). -/
def State.lockReleaseDue (s : State) : Bool :=
  s.steeringDue && decide (s.su.state = .lockRelease) && lasted s.su.releaseStart Config.lockReleaseTime s.now

/-- The due steering update finds the centring settle time run, with no steer angle value (R80). -/
def State.centringSettleDue (s : State) : Bool :=
  s.steeringDue && decide (s.su.state = .centring) && decide (s.su.command = 0) &&
    (s.channel 6).reading.isNone && lasted s.su.zeroStart Config.centringSettleTime s.now

/-- The due steering update finds the tracking excess 300,000 µs old (R90). -/
def State.trackingDue (s : State) : Bool :=
  s.steeringDue && s.offTrack && lasted s.su.trackStart Config.trackingTime s.now

/-- STEERING_UPDATE (R71). -/
def execSteeringUpdate (dt : Nat) (s : State) : Host.Outcome State Fault Refusal :=
  runWhen State.steeringDue steeringUpdate dt s

/-- LOCK_RELEASE_TIME_END (R75): the steering update that finds the lock release time run (log entry 2). -/
def execLockReleaseTimeEnd (dt : Nat) (s : State) : Host.Outcome State Fault Refusal :=
  runWhen State.lockReleaseDue steeringUpdate dt s

/-- CENTRING_SETTLE_END (R80): the steering update that finds the centring settle time run (log entry 2). -/
def execCentringSettleEnd (dt : Nat) (s : State) : Host.Outcome State Fault Refusal :=
  runWhen State.centringSettleDue steeringUpdate dt s

/-- TRACKING_TIME_END (R90): the steering update that finds the tracking excess 300,000 µs old (log entry 2). -/
def execTrackingTimeEnd (dt : Nat) (s : State) : Host.Outcome State Fault Refusal :=
  runWhen State.trackingDue steeringUpdate dt s

end Sys2Proof.Machine
end

