-- ==== Sys2Proof/Machine/Dispatch.lean ====
section
/-! DEFINITION. The dispatch: one arm for each command, each a direct call of its meaning. -/

namespace Sys2Proof.Machine

/-- What a command does to the state, but for the queue of waiting commands. -/
def exec (i : Instr) (s : State) : Host.Outcome State Fault Refusal :=
  match i with
  | .powerOn strap restartHigh locks => Sys2Proof.Machine.execPowerOn strap restartHigh locks s
  | .restart dt lowFor locks => Sys2Proof.Machine.execRestart dt lowFor locks s
  | .supplySettled dt => Sys2Proof.Machine.execSupplySettled dt s
  | .restartInputHigh dt => Sys2Proof.Machine.execRestartInputHigh dt s
  | .profileLoadComplete dt memory locks => Sys2Proof.Machine.execProfileLoadComplete dt memory locks s
  | .wheelEdge dt wheel direction => Sys2Proof.Machine.execWheelEdge dt wheel direction s
  | .speedUpdate dt => Sys2Proof.Machine.execSpeedUpdate dt s
  | .zeroSpeedTimeout dt wheel => Sys2Proof.Machine.execZeroSpeedTimeout dt wheel s
  | .scanStart dt => Sys2Proof.Machine.execScanStart dt s
  | .conversionComplete dt input => Sys2Proof.Machine.execConversionComplete dt input s
  | .frameReceived dt locks => Sys2Proof.Machine.execFrameReceived dt locks s
  | .frameGapTimeout dt => Sys2Proof.Machine.execFrameGapTimeout dt s
  | .idleWaitComplete dt => Sys2Proof.Machine.execIdleWaitComplete dt s
  | .frameBegin dt kind => Sys2Proof.Machine.execFrameBegin dt kind s
  | .transmitComplete dt => Sys2Proof.Machine.execTransmitComplete dt s
  | .statusRequest dt => Sys2Proof.Machine.execStatusRequest dt s
  | .noticeInterval dt => Sys2Proof.Machine.execNoticeInterval dt s
  | .statusExpiry dt peer => Sys2Proof.Machine.execStatusExpiry dt peer s
  | .demandExpiry dt => Sys2Proof.Machine.execDemandExpiry dt s
  | .staleEpisodeBegin dt => Sys2Proof.Machine.execStaleEpisodeBegin dt s
  | .steeringUpdate dt => Sys2Proof.Machine.execSteeringUpdate dt s
  | .lockReleaseTimeEnd dt => Sys2Proof.Machine.execLockReleaseTimeEnd dt s
  | .centringSettleEnd dt => Sys2Proof.Machine.execCentringSettleEnd dt s
  | .trackingTimeEnd dt => Sys2Proof.Machine.execTrackingTimeEnd dt s
  | .jointUpdate dt => Sys2Proof.Machine.execJointUpdate dt s
  | .riskClearTimeEnd dt => Sys2Proof.Machine.execRiskClearTimeEnd dt s
  | .damperLowTimeEnd dt => Sys2Proof.Machine.execDamperLowTimeEnd dt s
  | .damperGoodTimeEnd dt => Sys2Proof.Machine.execDamperGoodTimeEnd dt s
  | .brakeUpdate dt => Sys2Proof.Machine.execBrakeUpdate dt s
  | .cabUpdate dt inputs => Sys2Proof.Machine.execCabUpdate dt inputs s
  | .lampTestEnd dt => Sys2Proof.Machine.execLampTestEnd dt s
  | .holdUpdate dt => Sys2Proof.Machine.execHoldUpdate dt s
  | .confirmTimeEnd dt => Sys2Proof.Machine.execConfirmTimeEnd dt s
  | .applyFaultTimeEnd dt => Sys2Proof.Machine.execApplyFaultTimeEnd dt s
  | .releaseTimeEnd dt => Sys2Proof.Machine.execReleaseTimeEnd dt s
  | .levelUpdate dt skirt => Sys2Proof.Machine.execLevelUpdate dt skirt s
  | .pulseLimitEnd dt corner skirt => Sys2Proof.Machine.execPulseLimitEnd dt corner skirt s
  | .closureComplete dt corner => Sys2Proof.Machine.execClosureComplete dt corner s
  | .settleTimeEnd dt corner skirt => Sys2Proof.Machine.execSettleTimeEnd dt corner skirt s
  | .skirtContact dt => Sys2Proof.Machine.execSkirtContact dt s
  | .doorEvent dt door kind => Sys2Proof.Machine.execDoorEvent dt door kind s
  | .doorUpdate dt first second => Sys2Proof.Machine.execDoorUpdate dt first second s
  | .driveStopEnd dt door => Sys2Proof.Machine.execDriveStopEnd dt door s
  | .dwellTimeEnd dt door first second => Sys2Proof.Machine.execDwellTimeEnd dt door first second s
  | .doorDeadlinePassed dt door first second => Sys2Proof.Machine.execDoorDeadlinePassed dt door first second s
  | .listenWindowEnd dt => Sys2Proof.Machine.execListenWindowEnd dt s
  | .peerSilenceTimeout dt => Sys2Proof.Machine.execPeerSilenceTimeout dt s
  | .characterReceived dt char instant => Sys2Proof.Machine.execCharacterReceived dt char instant s
  | .supplyLoss dt => Sys2Proof.Machine.execSupplyLoss dt s

end Sys2Proof.Machine
end

