-- ==== Sys2Proof/Safety.lean ====
section
/-! DEFINITION. What the statements speak of: the invariants of a station's state, the outputs at rest, the local time a command
brings, and the ranges of a record that a frame can carry. -/

namespace Sys2Proof.Machine

/-! ### Commands -/

/-- The microseconds a command brings (log entry 1); POWER_ON starts local time afresh (R1). -/
def elapsedOf : Instr → Nat
  | .powerOn _ _ _ => 0
  | .restart dt _ _ => dt
  | .supplySettled dt => dt
  | .restartInputHigh dt => dt
  | .profileLoadComplete dt _ _ => dt
  | .wheelEdge dt _ _ => dt
  | .speedUpdate dt => dt
  | .zeroSpeedTimeout dt _ => dt
  | .scanStart dt => dt
  | .conversionComplete dt _ => dt
  | .frameReceived dt _ => dt
  | .frameGapTimeout dt => dt
  | .idleWaitComplete dt => dt
  | .frameBegin dt _ => dt
  | .transmitComplete dt => dt
  | .statusRequest dt => dt
  | .noticeInterval dt => dt
  | .statusExpiry dt _ => dt
  | .demandExpiry dt => dt
  | .staleEpisodeBegin dt => dt
  | .steeringUpdate dt => dt
  | .lockReleaseTimeEnd dt => dt
  | .centringSettleEnd dt => dt
  | .trackingTimeEnd dt => dt
  | .jointUpdate dt => dt
  | .riskClearTimeEnd dt => dt
  | .damperLowTimeEnd dt => dt
  | .damperGoodTimeEnd dt => dt
  | .brakeUpdate dt => dt
  | .cabUpdate dt _ => dt
  | .lampTestEnd dt => dt
  | .holdUpdate dt => dt
  | .confirmTimeEnd dt => dt
  | .applyFaultTimeEnd dt => dt
  | .releaseTimeEnd dt => dt
  | .levelUpdate dt _ => dt
  | .pulseLimitEnd dt _ _ => dt
  | .closureComplete dt _ => dt
  | .settleTimeEnd dt _ _ => dt
  | .skirtContact dt => dt
  | .doorEvent dt _ _ => dt
  | .doorUpdate dt _ _ => dt
  | .driveStopEnd dt _ => dt
  | .dwellTimeEnd dt _ _ _ => dt
  | .doorDeadlinePassed dt _ _ _ => dt
  | .listenWindowEnd dt => dt
  | .peerSilenceTimeout dt => dt
  | .characterReceived dt _ _ => dt
  | .supplyLoss dt => dt

/-- The row of the telltale table for a group (R192). -/
def Telltales.row (t : Telltales) : Group → Telltale
  | .steer => t.steer
  | .brake => t.brake
  | .joint => t.joint
  | .level => t.level
  | .door => t.door
  | .station => t.station

/-- The command is POWER_ON or SUPPLY_LOSS: the supply itself changes. -/
def isSupply : Instr → Bool
  | .powerOn _ _ _ => true
  | .supplyLoss _ => true
  | _ => false

/-! ### What a reset clears -/

/-- What power-on and a restart outside INERT alike leave in every item they clear, for a path step and a ride height. The arrival
of a NEVER entry and the end of the last character, of which the spec gives no reset value, are left out (log entries 24
and 41). -/
structure State.Cleared (pathStep rideHeight : Nat) (s : State) : Prop where
  /-- Every schedule is abandoned (R4). -/
  schedules : s.sched = Schedules.stopped
  /-- The heard flag, the last-peer stamp and the listen window (R185, R189). -/
  control : s.sc.heard = false ∧ s.sc.lastPeer = none ∧ s.sc.listenStart = none
  /-- Pulse capture (R5). -/
  pulses : s.pc = ⟨⟨[], 0⟩, ⟨[], 0⟩, 0, .forward, 0, 0⟩
  /-- The channel table, with no conversion in flight (R21). -/
  channels : s.cs.conv = none ∧ ∀ i : Fin 8, s.cs.channels[i] = ⟨512, none, .good, 0, 0⟩
  /-- The receive half (R25). -/
  receive : s.li.mode = .off ∧ s.li.startBit = none ∧ s.li.frame = none ∧ s.li.complete = none ∧ s.li.quiet = none
  /-- The transmit half, the sequences and the event summary (R32, R33, R36). -/
  transmit : s.li.pending = ⟨false, false, false, false⟩ ∧ s.li.sending = none ∧ s.li.statusSeq = 0 ∧ s.li.demandSeq = 0 ∧
    s.li.summary = []
  /-- The peer table and the DEMAND entry (R39, R41). -/
  peers : ∀ n : Fin 8,
    s.pv.peers[n].freshness = .never ∧ s.pv.peers[n].status = none ∧ s.pv.peers[n].lastSignature = none
  demand : s.pv.demand.freshness = .never ∧ s.pv.demand.record = none
  /-- The five working items of the peer view (R39). -/
  working : s.pv.lastMoving = none ∧ s.pv.holdStart = none ∧ s.pv.episode = false ∧ s.pv.frozen = [] ∧ s.pv.actedClear = none
  /-- The path unit (R59, R62). -/
  path : s.pu = ⟨.idle, 0, none, 0, BitVec.ofNat 32 pathStep, none, [], none, none, false⟩
  /-- Both corners (R165). -/
  corners : ∀ x, s.lu.corner x =
    { history := [], height := none, target := rideHeight, phase := .steady, pulseStart := none, pulseHeight := none,
      unchecked := false, closureEnd := none, settleStart := none, progress := 0, travel := none, cause := .none,
      floorBar := false, fillValve := false, exhaustValve := false }
  /-- The kneel phase and sides, the abort pending and the level state (R165). -/
  level : s.lu.kneel = .none ∧ s.lu.sides = .none ∧ s.lu.abort = false ∧ s.lu.level = .levelling
  /-- The door event queue and every door record but its state and its latch (R182). -/
  doors : s.du.queue = [] ∧ ∀ d ∈ s.du.doors, d.count = 0 ∧ d.deadline = none ∧ d.dwellStart = none ∧ d.driveStop = none ∧
    d.openRequest = false ∧ d.lockActuator = false ∧ d.drive = .off
  /-- The cab unit but its clear count (R131, R167, R192). -/
  cab : s.cu.chosen = none ∧ s.cu.quality = .fallback ∧ s.cu.brake = 0 ∧ s.cu.ack = false ∧ s.cu.kneelLatch = .none ∧
    s.cu.buttons = none ∧ s.cu.lampStart = none ∧ s.cu.lampOver = false ∧ ∀ g, s.cu.telltales.row g = ⟨true, none⟩

/-! ### Outputs follow their states -/

/-- The valves of a corner: the fill valve is open in FILLING alone, the exhaust valve in EXHAUSTING alone (R150 to R156). -/
def Corner.ValvesFollow (c : Corner) : Prop :=
  (c.fillValve = true → c.phase = .filling) ∧ (c.exhaustValve = true → c.phase = .exhausting)

/-- The states in which a door's bolt may be drawn back (R168). -/
def DoorState.drawn : DoorState → Bool
  | .locked => false
  | .unlocking => true
  | .released => true
  | .opening => true
  | .opened => true
  | .closing => true
  | .reversing => true
  | .locking => false
  | .fault => false

/-- The outputs of a door: the bolt is drawn back only in the states that draw it, and the drive runs only in the states
that drive the leaves (R168). -/
def Door.OutputsFollow (d : Door) : Prop :=
  (d.lockActuator = true → d.state.drawn = true) ∧
    (d.drive = .opening → d.state = .opening ∨ d.state = .reversing) ∧
    (d.drive = .closing → d.state = .closing)

/-- Every output follows the state of its unit. -/
structure State.OutputsFollow (s : State) : Prop where
  /-- The hold valve is energised (released) exactly in OFF and RELEASING (R132). -/
  hold : s.hu.valve = !s.hu.state.applied
  /-- In LOCKED the centre lock is engaged and the set-point is 0 (R74, R93). -/
  lock : s.su.state = .locked → s.su.lockValve = false ∧ s.su.setPoint = 0
  leftCorner : s.lu.left.ValvesFollow
  rightCorner : s.lu.right.ValvesFollow
  doors : ∀ d ∈ s.du.doors, d.OutputsFollow
  /-- The set-points are the pressure targets (R122). -/
  leftWheel : s.bu.left.setPoint = s.bu.left.target
  rightWheel : s.bu.right.setPoint = s.bu.right.target

/-! ### Bounds -/

/-- A channel record in its ranges: a FAILED channel has no value (R16, R18). -/
def Channel.Bounded (c : Channel) : Prop :=
  c.holdCount ≤ 10 ∧ c.goodCount ≤ 4 ∧ (c.condition = .failed → c.value = none)

/-- A door's obstruction count: at most three, and three only from the third obstruction until the count is cleared, which a
latched OPEN door, a fault and a locking door wait for (R176 to R180; log entry 20). -/
def Door.CountBounded (d : Door) : Prop :=
  d.count ≤ 3 ∧ (d.count = 3 →
    d.state = .reversing ∨ d.state = .fault ∨ d.state = .locking ∨ (d.state = .opened ∧ d.latch = true))

/-- The queues, counts, commands and set-points below lie in the ranges the spec gives them. -/
structure State.Bounded (s : State) : Prop where
  /-- Wheel-snapshot queues hold up to eight edges (R7). -/
  leftEdges : s.pc.left.queue.length ≤ 8
  rightEdges : s.pc.right.queue.length ≤ 8
  /-- Wheel speeds, and their mean, are limited to 65,535 mm/s (R9, R11). -/
  leftSpeed : s.pc.left.speed ≤ 65535
  rightSpeed : s.pc.right.speed ≤ 65535
  axleSpeed : s.pc.axleSpeed ≤ 65535
  /-- The trial of a conversion in flight stands at mid-scale (R15; log entry 25). -/
  trial : ∀ c, s.cs.conv = some c → c.trial = 512
  /-- The door event queue holds up to eight entries (R169). -/
  doorEvents : s.du.queue.length ≤ 8
  /-- The path queue holds up to its capacity (R60, R186). -/
  points : s.pu.queue.length ≤ s.sc.prof.queueCapacity
  /-- A height history holds up to eight samples (R152). -/
  leftHistory : s.lu.left.history.length ≤ 8
  rightHistory : s.lu.right.history.length ≤ 8
  /-- A corner's progress counter counts to four (R155). -/
  leftProgress : s.lu.left.progress ≤ 4
  rightProgress : s.lu.right.progress ≤ 4
  obstructions : ∀ d ∈ s.du.doors, d.CountBounded
  /-- A door held for the clear event stands in FAULT and is reported FAULT (R182; log entry 40). -/
  heldDoors : ∀ d ∈ s.du.doors, d.heldFault = true → d.state = .fault ∧ d.lockedFault = false
  /-- The event summary is a set, held in increasing code (R36, R37; log entry 34). -/
  summary : s.li.summary.Pairwise fun a b => a.code < b.code
  channels : ∀ c ∈ s.cs.channels.toList, c.Bounded
  /-- The profile in use is clamped (R94, R108, R126). -/
  fullLimit : s.sc.prof.fullLimit ≤ 2500
  pressureLimit : s.sc.prof.pMax ≤ 1000
  dampingFloor : ∀ r ∈ s.sc.prof.stations.toList, ∀ j, r.joint? = some j → j.d0 ≤ 100
  /-- The steer command and its set-point lie in −2,500 to 2,500 cdeg (R26, R85). -/
  command : s.su.command.natAbs ≤ 2500
  setPoint : s.su.setPoint.natAbs ≤ 2500
  /-- The damping command and output lie in 0 to 100 (R103). -/
  damping : s.ju.damping ≤ 100
  output : s.ju.output ≤ 100
  /-- A wheel's hold-good count is cleared at three (R120). -/
  leftHoldGood : s.bu.left.holdGood ≤ 2
  rightHoldGood : s.bu.right.holdGood ≤ 2
  /-- Each wheel's target and set-point are at most the axle demand, which is at most 1,000 kPa (R116, R122, R126). -/
  leftTarget : s.bu.left.target ≤ s.bu.demand
  rightTarget : s.bu.right.target ≤ s.bu.demand
  leftSetPoint : s.bu.left.setPoint ≤ s.bu.demand
  rightSetPoint : s.bu.right.setPoint ≤ s.bu.demand
  demand : s.bu.demand ≤ 1000

/-! ### Kneeling -/

/-- The load is frozen exactly while the kneel phase is not NONE (R111), and an abort is pending only in KNEELING or KNELT
(R162). -/
structure State.KneelHolds (s : State) : Prop where
  frozen : s.bu.frozen.isSome = s.lu.kneel.freezes
  abort : s.lu.abort = true → s.lu.kneel.lowered = true

/-! ### Outputs at rest -/

/-- A door's outputs at their reset values (R168). -/
def Door.AtRest (d : Door) : Prop := d.lockActuator = false ∧ d.drive = .off

/-- Every output of the station stands at its reset value (R59 to R192). -/
structure State.AtRest (s : State) : Prop where
  hold : s.hu.valve = false
  lock : s.su.lockValve = false
  setPoint : s.su.setPoint = 0
  leftWheel : s.bu.left.setPoint = 0
  rightWheel : s.bu.right.setPoint = 0
  damper : s.ju.output = 100
  leftFill : s.lu.left.fillValve = false
  leftExhaust : s.lu.left.exhaustValve = false
  rightFill : s.lu.right.fillValve = false
  rightExhaust : s.lu.right.exhaustValve = false
  doors : ∀ d ∈ s.du.doors, d.AtRest
  steerLit : s.cu.telltales.steer.lit = true
  brakeLit : s.cu.telltales.brake.lit = true
  jointLit : s.cu.telltales.joint.lit = true
  levelLit : s.cu.telltales.level.lit = true
  doorLit : s.cu.telltales.door.lit = true
  stationLit : s.cu.telltales.station.lit = true

/-- While no unit runs (POWERUP, PROFILE_LOAD and INERT), every output stands at its reset value (10, "Station state"; R191). -/
def State.RestsWhenStopped (s : State) : Prop := s.runs = false → s.AtRest

/-! ### Records a frame can carry (R26) -/

/-- A DEMAND record in the ranges of R26. -/
def DemandRec.Sendable (r : DemandRec) : Prop :=
  r.brake ≤ 800 ∧ doorListOk r.release = true ∧ doorListOk r.opens = true

/-- A JOINT part in the ranges of R26. -/
def JointPart.Sendable (j : JointPart) : Prop := -16384 ≤ j.angle ∧ j.angle ≤ 16384 ∧ j.damping ≤ 100

/-- An AXLE part in the ranges of R26. -/
def AxlePart.Sendable (a : AxlePart) : Prop :=
  a.speed ≤ 65535 ∧ a.load ≤ 65535 ∧ -2500 ≤ a.command ∧ a.command ≤ 2500 ∧ a.doors.length ≤ 2 ∧
    ∀ d ∈ a.doors, 1 ≤ d.number ∧ d.number ≤ 8

/-- A role part in the ranges of R26, of the role the profile gives its sender. -/
def RolePart.Sendable (part : RolePart) (sender : StationRec) : Prop :=
  match part with
  | .none => sender = .cab
  | .axle a => sender.isAxle = true ∧ a.Sendable
  | .joint j => sender.isJoint = true ∧ j.Sendable

/-- A STATUS record in the ranges of R26: its station state is one in which STATUS is sent. -/
def StatusRec.Sendable (r : StatusRec) (sender : StationRec) : Prop :=
  (r.station.runs = true ∨ r.station = .inert) ∧ r.part.Sendable sender

end Sys2Proof.Machine
end

