-- ==== Sys2Proof/Certificates/Slice0/Obligations.lean ====
section
/-! DEFINITION. The statements for the provers. In each, `u` is the state the command finds: the given state with local time
moved on by the command's `dt`. A command's condition is written with the model's own test of it (`u.holdDue` and the like),
which is unfolded in the file of its unit. -/

open Sys2Proof Sys2Proof.Machine

/-! ### The machine as a whole -/

/-- A step takes the command at the front of the queue and runs it on the state with the queue's rest; on an empty queue a
step is one microsecond at a powered part and nothing without supply (the second part is the model's choice, log entry 1). -/
def Obligations.StepTakesFront : Prop :=
  (∀ (c : Instr) (rest : List Instr) (s : State),
    step { s with pending := c :: rest } = exec c { s with pending := rest }) ∧
  (∀ s : State, s.pending = [] → step s = .next (if s.powered then { s with now := s.now + 1 } else s))

/-- Every command answers a next state from every state, and leaves the queue of waiting commands alone (that a command whose
condition is not met completes too is the model's choice, log entry 3). At a powered part every command but POWER_ON moves
local time on by exactly the time it brings, a restart, an INERT station and a wrap included; POWER_ON starts it from 0 (R1;
that a command brings its time is the model's choice, log entry 1). -/
def Obligations.EveryCommandCompletes : Prop :=
  (∀ (c : Instr) (s : State), ∃ t, exec c s = .next t ∧ t.pending = s.pending) ∧
  (∀ (c : Instr) (s : State), s.powered = true → (∀ n b l, c ≠ .powerOn n b l) →
    ∃ t, exec c s = .next t ∧ t.now = s.now + BitVec.ofNat 32 (elapsedOf c)) ∧
  (∀ n b l (s : State), ∃ t, exec (.powerOn n b l) s = .next t ∧ t.now = 0)

/-- A loss of supply cuts the frame in flight and leaves every output at rest; from then on every command but POWER_ON changes
nothing (R33; what an unpowered part holds is the model's choice, log entry 8). -/
def Obligations.SupplyLossStopsEverything : Prop :=
  (∀ (dt : Nat) (s : State), s.powered = true →
    ∃ t, exec (.supplyLoss dt) s = .next t ∧ t.powered = false ∧ t.li.sending = none ∧
      t.li.pending = TransmitSet.empty ∧ t.AtRest) ∧
  (∀ (c : Instr) (s : State), s.powered = false → (∀ n b l, c ≠ .powerOn n b l) → exec c s = .next s)

/-! ### Power-on, restart and the profile (10) -/

/-- POWER_ON: the station is in POWERUP at local time 0 with its strap read, the image empty, no check result and the duplicate
flag clear, and every unit's items are cleared as `State.Cleared` lists them: schedules, pulse capture, channels, receive and
transmit half, peer view, path unit, corners and kneel phase, doors and cab items; the clear count is 0 and the LEVEL and kneel
latches are clear. The steering, joint, hold and brake units are another statement's. Until a profile is loaded the path step and
the ride height are their defaults (the model's choice, log entry 6), and there is no door table, the lock switches being kept
for it (log entry 33). -/
def Obligations.PowerOnControl : Prop :=
  ∀ (strap : Fin 8) (high : Bool) (locks : LockLevels) (s : State),
    ∃ t, exec (.powerOn strap high locks) s = .next t ∧
      t.powered = true ∧ t.now = 0 ∧ t.sc.station = .powerup ∧ t.sc.strap = strap ∧ t.sc.image = [] ∧
      t.sc.check = .none ∧ t.sc.duplicate = false ∧ t.sc.settled = false ∧ t.sc.restartLow = !high ∧
      t.Cleared 250 320 ∧
      t.cu.clearCount = 0 ∧ t.lu.levelLatch = false ∧ t.lu.kneelLatch = false ∧
      t.du.doors = [] ∧ t.du.resetLocks = locks

/-- What the steering, joint and hold units hold after power-on and after a restart: the tables of R93, R107 and R146, the
latches of steering and hold kept by a restart; the brake unit's table beside them. -/
def Obligations.UnitsAfterReset : Prop :=
  (∀ (strap : Fin 8) (high : Bool) (locks : LockLevels) (s : State),
    ∃ t, exec (.powerOn strap high locks) s = .next t ∧
      t.su = ⟨.locked, 0, 0, false, false, none, none, none⟩ ∧
      t.ju = ⟨.tracking, 0, false, none, 100, 100, false, false, none, none⟩ ∧
      t.hu = ⟨.applying, none, false, none, none, none, false⟩ ∧ t.hu.state.field = .applying ∧
      t.bu = ⟨none, none, false, 0, ⟨.apply, 0, 0, 0⟩, ⟨.apply, 0, 0, 0⟩⟩) ∧
  (∀ (dt lowFor : Nat) (locks : LockLevels) (s : State), s.powered = true → s.sc.station ≠ .inert → 10 ≤ lowFor →
    ∃ t, exec (.restart dt lowFor locks) s = .next t ∧
      t.su = ⟨.locked, 0, 0, false, s.su.latch, none, none, none⟩ ∧
      t.ju = ⟨.tracking, 0, false, none, 100, 100, false, false, none, none⟩ ∧
      t.hu = ⟨.applying, none, s.hu.latch, none, none, none, false⟩ ∧ t.hu.state.field = .applying ∧
      t.bu = ⟨none, none, false, 0, ⟨.apply, 0, 0, 0⟩, ⟨.apply, 0, 0, 0⟩⟩)

/-- A restart outside INERT: POWERUP, and every unit's items cleared as `State.Cleared` lists them, the receive half of the line
interface (its mode, the start bit, the frame, the complete frame and the quiet time) and the whole peer view among them (R25,
R39); each door LOCKED or in FAULT by its lock switch, one that was OPEN and goes to FAULT being held for the clear
event (R182; of the state OPEN alone, and of one held already, log entry 40); the level of the line (log entry 43), the profile, the strap, the check result, the clear count, the LEVEL and
kneel latches and every door's obstruction latch kept, and local time running on. The steering, joint, hold and brake units are
another statement's. -/
def Obligations.RestartKeepsAndClears : Prop :=
  ∀ (dt lowFor : Nat) (locks : LockLevels) (s : State), s.powered = true → s.sc.station ≠ .inert → 10 ≤ lowFor →
    ∃ t, exec (.restart dt lowFor locks) s = .next t ∧
      t.sc.station = .powerup ∧ t.Cleared s.sc.prof.pathStep s.sc.prof.rideHeight ∧
      t.now = s.now + BitVec.ofNat 32 dt ∧ t.sc.strap = s.sc.strap ∧ t.sc.prof = s.sc.prof ∧
      t.sc.image = s.sc.image ∧ t.sc.check = s.sc.check ∧ t.cu.clearCount = s.cu.clearCount ∧
      t.lu.levelLatch = s.lu.levelLatch ∧ t.lu.kneelLatch = s.lu.kneelLatch ∧
      t.du.doors.map (·.number) = s.du.doors.map (·.number) ∧ t.du.doors.map (·.latch) = s.du.doors.map (·.latch) ∧
      (∀ d ∈ t.du.doors, d.state = .locked ∨ d.state = .fault) ∧
      (∀ d, t.du.doors[0]? = some d → d.state = if locks.first then .locked else .fault) ∧
      (∀ d, t.du.doors[1]? = some d → d.state = if locks.second then .locked else .fault) ∧
      (∀ (k : Nat) (d : Door), k < 2 → s.du.doors[k]? = some d →
        let home := if k = 0 then locks.first else locks.second
        ∃ e, t.du.doors[k]? = some e ∧ e.lockedFault = false ∧
          (e.heldFault = true ↔ home = false ∧ (d.state = .opened ∨ d.heldFault = true))) ∧
      t.li.lineActive = s.li.lineActive

/-- A restart taken in INERT leaves the station INERT with its line interface, but for the level of the line itself (log entry 43),
and its peer view cleared (R39, R51), the
clear count kept and the cab unit's other items at the values they have after a restart; every other unit keeps the values of
its entry to INERT (which items such a restart reaches is the model's reading, log entry 39; that the end of the last character
then stands at 0, and the arrival time of every NEVER entry at 0, are its choices, log entries 24 and 41). When the restart input goes high,
STATUS is requested, its schedule starts, and a set duplicate flag raises DUPLICATE_STATION with a NOTICE requested. -/
def Obligations.RestartInInert : Prop :=
  (∀ (dt lowFor : Nat) (locks : LockLevels) (s : State), s.powered = true → s.sc.station = .inert → 10 ≤ lowFor →
    exec (.restart dt lowFor locks) s = .next
      { s.elapse dt with
        sc := { s.sc with restartLow := true }
        sched := Schedules.stopped
        li := { LineInterface.reset with lineActive := s.li.lineActive }
        pv := PeerView.reset
        cu := CabUnit.reset s.cu.clearCount true }) ∧
  (∀ (dt : Nat) (s : State), let u := s.elapse dt
    s.powered = true → s.sc.station = .inert → s.sc.restartLow = true →
    ∃ t, exec (.restartInputHigh dt) s = .next t ∧
      t.sc = { s.sc with restartLow := false } ∧
      t.li.pending.status = true ∧ t.sched.status = some (later u.now s.sc.prof.statusPeriod) ∧
      t.li.mode = .waiting u.now ∧
      (s.sc.duplicate = true → .duplicateStation ∈ t.li.summary ∧ t.li.pending.notice = true) ∧
      (s.sc.duplicate = false → t.li.summary = s.li.summary ∧ t.li.pending.notice = s.li.pending.notice))

/-- SUPPLY_SETTLED and RESTART_INPUT_HIGH in POWERUP: with the supply settled and the restart input high the station enters
LISTENING on a check result of PASSED and PROFILE_LOAD on none; while the input is low it stays in POWERUP. That a flag holds
that the supply has settled, over a restart too, is the model's choice (log entry 7), and so is that the lamp start is set at
every station (log entry 31). On entry to LISTENING the apply start is set at an axle station alone (R132, R145). -/
def Obligations.LeavingPowerup : Prop :=
  ∀ (dt : Nat) (s : State), let u := s.elapse dt
    s.powered = true → s.sc.station = .powerup →
    (s.sc.settled = false → s.sc.restartLow = true →
      exec (.supplySettled dt) s = .next { u with sc := { u.sc with settled := true } }) ∧
    (s.sc.settled = false → s.sc.restartLow = false → s.sc.check = .none →
      exec (.supplySettled dt) s = .next
        { u with
          sc := { u.sc with settled := true, station := .profileLoad }
          cu := { u.cu with lampStart := some u.now } }) ∧
    (s.sc.restartLow = true → s.sc.settled = false →
      exec (.restartInputHigh dt) s = .next { u with sc := { u.sc with restartLow := false } }) ∧
    (s.sc.restartLow = true → s.sc.settled = true → s.sc.check = .none →
      ∃ t, exec (.restartInputHigh dt) s = .next t ∧ t.sc.station = .profileLoad) ∧
    (s.sc.restartLow = true → s.sc.settled = true → s.sc.check = .passed →
      ∃ t, exec (.restartInputHigh dt) s = .next t ∧ t.sc.station = .listening ∧ t.sc.heard = false ∧
        t.sc.listenStart = some u.now ∧ t.li.mode = .waiting u.now ∧
        (s.own.isAxle = true → t.hu = { s.hu with applyStart := some u.now }) ∧
        (s.own.isAxle = false → t.hu = s.hu))

/-- PROFILE_LOAD_COMPLETE with every check holding: PASSED, the clamped image in use, PROFILE_CLAMPED raised exactly if the
clamped image differs from the image as read (which fields that looks at is the model's reading, log entry 14), and LISTENING
entered with its window, its receive half's wait, the steer state LEADING at the leading axle (R70) and, at an axle station
alone, the hold unit's apply start (R132, R145). -/
def Obligations.ProfileLoadPasses : Prop :=
  ∀ (dt : Nat) (m : List Byte) (locks : LockLevels) (s : State), let u := s.elapse dt
    s.powered = true → s.sc.station = .profileLoad → crcHolds m = true →
    (readImage m).checksHold s.sc.strap = true →
    ∃ t, exec (.profileLoadComplete dt m locks) s = .next t ∧
      t.sc.station = .listening ∧ t.sc.check = .passed ∧ t.sc.image = m ∧ t.sc.signature = storedCrc m ∧
      t.sc.prof = (readImage m).clamped ∧ t.sc.heard = false ∧ t.sc.listenStart = some u.now ∧
      t.li.mode = .waiting u.now ∧
      (((readImage m).station s.sc.strap).isAxle = true → t.hu = { s.hu with applyStart := some u.now }) ∧
      (((readImage m).station s.sc.strap).isAxle = false → t.hu = s.hu) ∧
      (.profileClamped ∈ t.li.summary ↔
        ((readImage m).clamped ≠ readImage m ∨ .profileClamped ∈ s.li.summary)) ∧
      (t.su.state = .leading ↔ ((readImage m).station s.sc.strap).isLeading = true ∨ s.su.state = .leading) ∧
      t.sched.status = some (later u.now t.sc.prof.statusPeriod) ∧
      t.sched.notice = some (later u.now t.sc.prof.noticePeriod) ∧
      (t.sched.hold = some (later u.now 10000) ↔ ((readImage m).station s.sc.strap).isAxle = true)

/-- PROFILE_LOAD_COMPLETE with a check failing: FAILED and INERT, the hold valve applied, STATUS requested; an axle station
shows HELD with no confirm start, and at any other station, one of no known role included, the hold unit holds its reset values
(R132; the station of no known role is the model's choice, log entry 28); a bad CRC leaves the divisor 5 and a 10 ms period and
a role part of none, any other failure uses the clamped image. -/
def Obligations.ProfileLoadFails : Prop :=
  ∀ (dt : Nat) (m : List Byte) (locks : LockLevels) (s : State), let u := s.elapse dt
    s.powered = true → s.sc.station = .profileLoad →
    (crcHolds m = false ∨ (readImage m).checksHold s.sc.strap = false) →
    ∃ t, exec (.profileLoadComplete dt m locks) s = .next t ∧
      t.sc.station = .inert ∧ t.sc.check = .failed ∧ t.sc.signature = storedCrc m ∧
      t.hu.valve = false ∧ t.hu.latch = s.hu.latch ∧ t.su.latch = s.su.latch ∧
      (crcHolds m = true → ((readImage m).station s.sc.strap).isAxle = true →
        t.hu.state = .held ∧ t.hu.confirmStart = none) ∧
      (crcHolds m = false ∨ ((readImage m).station s.sc.strap).isAxle = false →
        t.hu = ⟨.applying, none, s.hu.latch, none, none, none, false⟩) ∧
      t.li.pending.status = true ∧ t.sched.status = some (later u.now t.sc.prof.statusPeriod) ∧
      t.li.mode = .waiting u.now ∧ (t.li.summary ≠ [] → t.li.pending.notice = true) ∧
      (crcHolds m = false → t.sc.prof.divisor = 5 ∧ t.sc.prof.statusPeriod = 10000 ∧ t.ownPart = .none) ∧
      (crcHolds m = true → t.sc.prof = (readImage m).clamped)

/-- The clamps of R188 bring every numeric field to the nearest value of its range whatever the image, and leave one already in
its range as it is, an odd path step or pitch in range taken as the next lower even one (the ingress latency, one byte, has no
clamp): channel calibrations and spacings included, the fields that depend on one another against the clamped one. They take a
notice or capacity code of 3 as 1 and a divisor other than 2 as 5, change no role, no absent spacing, no door and nothing of the
leading axle's spacing, and change nothing in a profile that they have already clamped. -/
def Obligations.ProfileRanges : Prop :=
  ∀ p : Profile, let q := p.clamped
    let near := fun lo hi x y : Nat => lo ≤ y ∧ y ≤ hi ∧ (lo ≤ x → x ≤ hi → y = x) ∧ (x < lo → y = lo) ∧ (hi < x → y = hi)
    let nearEven := fun lo hi x y : Nat =>
      y % 2 = 0 ∧ lo ≤ y ∧ y ≤ hi ∧ (lo ≤ x → x ≤ hi → y = x - x % 2) ∧ (x < lo → y = lo) ∧ (hi < x → y = hi)
    let nearCal := fun (l : Int) (x y : ChannelCal) => near 0 1023 x.gain y.gain ∧
      -l ≤ y.offset ∧ y.offset ≤ l ∧ (-l ≤ x.offset → x.offset ≤ l → y.offset = x.offset) ∧
      (x.offset < -l → y.offset = -l) ∧ (l < x.offset → y.offset = l)
    let nearSpacing := fun x y : Option Nat =>
      (x = none → y = none) ∧ ∀ d, x = some d → ∃ e, y = some e ∧ near 1 30000 d e
    nearEven 100 500 p.pathStep q.pathStep ∧ near 500 8000 p.lagLimit q.lagLimit ∧
    near 0 2500 p.fullLimit q.fullLimit ∧ near 0 2500 p.kneelLimit q.kneelLimit ∧ near 5 50 p.rateStep q.rateStep ∧
    near 1000 30000 p.v1 q.v1 ∧ near (q.v1 + 1000) 40000 p.v2 q.v2 ∧ near 200 1000 p.pMax q.pMax ∧
    near 50 400 p.fallback q.fallback ∧ near 100 800 p.reverseStop q.reverseStop ∧
    near 300 1000 p.holdPressure q.holdPressure ∧ near 100 800 p.rideHeight q.rideHeight ∧
    near 20 100 p.kneelDrop q.kneelDrop ∧ near 0 q.rideHeight p.kneelFloor q.kneelFloor ∧
    near 1000 30000 p.dwellMs q.dwellMs ∧ q.latency = p.latency ∧ q.statusSlow = p.statusSlow ∧ q.doors = p.doors ∧
    (p.divisor = 2 → q.divisor = 2) ∧ (p.divisor ≠ 2 → q.divisor = 5) ∧
    (p.noticeCode = 3 → q.noticeCode = 1) ∧ (p.noticeCode ≠ 3 → q.noticeCode = p.noticeCode) ∧
    (p.capacityCode = 3 → q.capacityCode = 1) ∧ (p.capacityCode ≠ 3 → q.capacityCode = p.capacityCode) ∧
    (p.axleCal.length = 8 → q.axleCal.length = 8) ∧ (p.jointCal.length = 2 → q.jointCal.length = 2) ∧
    (p.cabCal.length = 2 → q.cabCal.length = 2) ∧
    (∀ (i : Nat) (c : ChannelCal), q.axleCal[i]? = some c →
      ∃ b, p.axleCal[i]? = some b ∧ nearCal (if i ≤ 1 then 1000 else if i ≤ 5 then 1200 else 6000) b c) ∧
    (∀ (i : Nat) (c : ChannelCal), q.jointCal[i]? = some c →
      ∃ b, p.jointCal[i]? = some b ∧ nearCal (if i = 0 then 16384 else 1200) b c) ∧
    (∀ (i : Nat) (c : ChannelCal), q.cabCal[i]? = some c → ∃ b, p.cabCal[i]? = some b ∧ nearCal 100 b c) ∧
    (∀ n, (p.station n = .absent → q.station n = .absent) ∧ (p.station n = .cab → q.station n = .cab)) ∧
    (∀ n k r, p.station n = .axle k r → ∃ x, q.station n = .axle k x ∧
      (k = 1 → x.spacing = r.spacing) ∧ (k ≠ 1 → nearSpacing r.spacing x.spacing) ∧
      near 0 256 r.followGain x.followGain ∧ near 0 6000 r.springFactor x.springFactor ∧
      near 0 9000 r.unsprung x.unsprung ∧ near 10 1000 r.brakeGain x.brakeGain ∧ nearEven 10 80 r.pitch x.pitch) ∧
    (∀ n k r, p.station n = .joint k r → ∃ x, q.station n = .joint k x ∧
      nearSpacing r.spacing x.spacing ∧ near 0 512 r.ratio x.ratio ∧ near 100 16384 r.eOn x.eOn ∧
      near 50 (x.eOn - 50) r.eOff x.eOff ∧ near 1000 16384 r.staticLimit x.staticLimit ∧
      near 1000 16384 r.reverseLimit x.reverseLimit ∧ near 1000 16384 r.endLimit x.endLimit ∧
      near 1000 40000 r.vHi x.vHi ∧ near 0 100 r.d0 x.d0 ∧ near x.d0 100 r.d1 x.d1 ∧ near 0 64 r.kd x.kd ∧
      near 0 128 r.stretch x.stretch) ∧
    q.clamped = q

/-- LISTEN_WINDOW_END goes to ACTIVE if a peer was heard and to ISOLATED with LINK_LOSS raised if none was; the leading axle's
path unit starts from the path odometer; nothing else changes. PEER_SILENCE_TIMEOUT takes ACTIVE to ISOLATED with LINK_LOSS
raised. -/
def Obligations.ListenEndAndSilence : Prop :=
  (∀ (dt : Nat) (s : State), let u := s.elapse dt
    s.powered = true → s.sc.station = .listening → lasted s.sc.listenStart 200000 u.now = true →
    ∃ t, exec (.listenWindowEnd dt) s = .next t ∧
      t = { u with sc := t.sc, pu := t.pu, li := { u.li with summary := t.li.summary } } ∧
      t.sc = { s.sc with listenStart := none, station := t.sc.station } ∧
      (s.sc.heard = true → t.sc.station = .active ∧ t.li = s.li) ∧
      (s.sc.heard = false → t.sc.station = .isolated ∧ .linkLoss ∈ t.li.summary) ∧
      (u.own.isLeading = false → t.pu = s.pu) ∧
      (u.own.isLeading = true →
        t.pu.acc = 0 ∧ t.pu.prevYaw = none ∧ t.pu.epoch = s.pu.epoch ∧
        t.pu.nextStep = s.pc.pathOdo + BitVec.ofNat 32 s.sc.prof.pathStep ∧
        t.pu.laying =
          (if (s.channel 7).condition = .failed then .headingLost
           else if s.pc.direction = .forward then .laying else .reversing))) ∧
  (∀ (dt : Nat) (s : State) (p : Time), let u := s.elapse dt
    s.powered = true → s.sc.station = .active → s.sc.lastPeer = some p → 100000 < (u.now - p).toNat →
    exec (.peerSilenceTimeout dt) s = .next
      { u with
        sc := { u.sc with station := .isolated }
        li := { u.li with summary := insertKind .linkLoss u.li.summary } })

/-! ### Pulse capture and the converter scan (01) -/

/-- WHEEL_EDGE: the edge joins its wheel's queue, a full queue losing its oldest entry with SNAPSHOT_OVERRUN raised; it sets
the axle direction, as R8 says (that it changes at the edge, where R11 lets it stand until the next speed update, is log entry 46's
choice); a FORWARD edge adds half a pitch to the leading axle's path odometer, from 0 after REVERSE, or to a
following axle's own odometer. At the leading axle the path unit may change its laying items and lay a point (a point laid is
another statement's): a REVERSE edge takes LAYING to REVERSING, and the odometer's restart takes REVERSING to LAYING with the
epoch advanced; outside these and a crossed path step it stays. At a following axle PATH_LAG comes to stand, and is raised, when
the own odometer has run past the lag limit. Every other unit stays. -/
def Obligations.WheelEdges : Prop :=
  ∀ (dt : Nat) (w : Side) (d : Direction) (r : AxleRec) (k : Nat) (s : State), let u := s.elapse dt
    let recorded := if 8 ≤ (s.pc.wheel w).queue.length then insertKind .snapshotOverrun s.li.summary else s.li.summary
    s.powered = true → s.runs = true → s.own = .axle k r →
    ∃ t, exec (.wheelEdge dt w d) s = .next t ∧
      (t.pc.wheel w).queue =
        (if 8 ≤ (s.pc.wheel w).queue.length then (s.pc.wheel w).queue.drop 1 else (s.pc.wheel w).queue) ++
          [⟨u.now, d⟩] ∧
      (∀ x, x ≠ w → t.pc.wheel x = s.pc.wheel x) ∧ (t.pc.wheel w).speed = (s.pc.wheel w).speed ∧
      t.pc.axleSpeed = s.pc.axleSpeed ∧ t.pc.direction = d ∧
      (k = 1 → t.pc.ownOdo = s.pc.ownOdo ∧
        t.pc.pathOdo =
          match d, s.pc.direction with
          | .forward, .forward => s.pc.pathOdo + BitVec.ofNat 32 (r.pitch / 2)
          | .forward, .reverse => BitVec.ofNat 32 (r.pitch / 2)
          | .reverse, _ => s.pc.pathOdo) ∧
      (k ≠ 1 → t.pc.pathOdo = s.pc.pathOdo ∧
        t.pc.ownOdo =
          match d with
          | .forward => s.pc.ownOdo + BitVec.ofNat 32 (r.pitch / 2)
          | .reverse => s.pc.ownOdo) ∧
      (k = 1 →
        t.li.summary = recorded ∧
        t.pu = { s.pu with
          laying := t.pu.laying, acc := t.pu.acc, prevYaw := t.pu.prevYaw, epoch := t.pu.epoch,
          nextStep := t.pu.nextStep, newest := t.pu.newest } ∧
        (d = .reverse → t.su = s.su ∧ t.li.pending = s.li.pending ∧
          t.pu = { s.pu with laying := if s.pu.laying = .laying then .reversing else s.pu.laying }) ∧
        (d = .forward → s.pc.direction = .reverse → s.pu.laying = .reversing →
          t.pu.laying = .laying ∧ t.pu.epoch = s.pu.epoch + 1 ∧ t.pu.acc = 0 ∧ t.pu.prevYaw = none ∧
          ((t.pc.pathOdo - BitVec.ofNat 32 s.sc.prof.pathStep).toInt < 0 →
            t.pu.nextStep = BitVec.ofNat 32 s.sc.prof.pathStep ∧ t.pu.newest = s.pu.newest)) ∧
        (d = .forward →
          (s.pu.laying = .idle ∨ s.pu.laying = .headingLost ∨ (s.pu.laying = .reversing ∧ s.pc.direction = .forward) ∨
            (s.pu.laying = .laying ∧ (t.pc.pathOdo - s.pu.nextStep).toInt < 0)) →
          t.pu = s.pu ∧ t.su = s.su ∧ t.li.pending = s.li.pending)) ∧
      (k ≠ 1 →
        let lags := d = .forward ∧ ∃ ref, s.pu.lagRef = some ref ∧ s.sc.prof.lagLimit < (t.pc.ownOdo - ref).toNat
        t.su = s.su ∧ t.li.pending = s.li.pending ∧
        (s.pu.lagStands = false → lags →
          t.pu = { s.pu with lagStands := true } ∧ t.li.summary = insertKind .pathLag recorded) ∧
        (s.pu.lagStands = true ∨ ¬lags → t.pu = s.pu ∧ t.li.summary = recorded)) ∧
      t.su = { s.su with command := t.su.command } ∧
      t = { u with
        pc := t.pc, pu := t.pu, su := t.su,
        li := { s.li with
          summary := t.li.summary, pending := { s.li.pending with path := t.li.pending.path } } }

/-- The leading axle's path. A path step crossed while LAYING: the next-step distance advances by one path step, and with a
front steer angle a point is laid, a PATH frame is requested and the STATUS steer command is the angle; without one no point is
laid (R56, R57). A yaw completion, read from the channel's record as the completion leaves it: while LAYING a value is
integrated over the time since the previous yaw stamp, at most 10,000 µs of it, and nothing is added without such a stamp or
without a value (R53, R54); FAILED takes LAYING and REVERSING to HEADING_LOST (R54), which a GOOD value alone recovers, to
LAYING on a new epoch or to REVERSING by the direction (R55); IDLE stays (R52). -/
def Obligations.PathPointLaid : Prop :=
  (∀ (dt : Nat) (w : Side) (r : AxleRec) (s : State), let odo := s.pc.pathOdo + BitVec.ofNat 32 (r.pitch / 2)
    s.powered = true → s.runs = true → s.own = .axle 1 r → s.pu.laying = .laying → s.pc.direction = .forward →
    0 ≤ (odo - s.pu.nextStep).toInt →
    ∃ t, exec (.wheelEdge dt w .forward) s = .next t ∧
      t.pu.nextStep = s.pu.nextStep + BitVec.ofNat 32 s.sc.prof.pathStep ∧
      (∀ d1, (s.channel 6).reading = some d1 →
        t.pu.newest = some ⟨s.pu.epoch, odo, s.pu.acc.extractLsb' 16 16 + BitVec.ofInt 16 (roundDiv (d1 * 65536) 36000),
          s.pu.acc.extractLsb' 16 16⟩ ∧
        t.li.pending.path = true ∧ t.su.command = clampInt (-2500) 2500 d1) ∧
      ((s.channel 6).reading = none → t.pu.newest = s.pu.newest ∧ t.li.pending = s.li.pending ∧ t.su = s.su) ∧
      t.pu = { s.pu with nextStep := t.pu.nextStep, newest := t.pu.newest } ∧ t.su = { s.su with command := t.su.command }) ∧
  (∀ (dt : Nat) (input : BitVec 10) (r : AxleRec) (c : Conversion) (s : State), let u := s.elapse dt
    s.powered = true → s.runs = true → s.own = .axle 1 r → s.cs.conv = some c → c.channel = 7 →
    ∃ t, exec (.conversionComplete dt input) s = .next t ∧
      let yaw := t.channel 7
      (s.pu.laying = .idle → t.pu = s.pu) ∧
      (s.pu.laying = .laying ∨ s.pu.laying = .reversing → yaw.condition = .failed →
        t.pu = { s.pu with laying := .headingLost }) ∧
      (s.pu.laying = .reversing → yaw.condition ≠ .failed → t.pu = s.pu) ∧
      (∀ v, s.pu.laying = .laying → yaw.reading = some v →
        (∀ p, s.pu.prevYaw = some p → t.pu = { s.pu with
          prevYaw := some u.now
          acc := s.pu.acc +
            BitVec.ofInt 32 (roundDiv (v * (min (u.now - p).toNat 10000 : Nat) * 4294967296) 36000000000) }) ∧
        (s.pu.prevYaw = none → t.pu = { s.pu with prevYaw := some u.now })) ∧
      (s.pu.laying = .laying → yaw.condition ≠ .failed → yaw.reading = none →
        t.pu = { s.pu with prevYaw := some u.now }) ∧
      (s.pu.laying = .headingLost → yaw.goodReading = none → t.pu = s.pu) ∧
      (∀ v, s.pu.laying = .headingLost → yaw.goodReading = some v → t.pu = { s.pu with
        acc := 0
        prevYaw := some u.now
        nextStep := s.pc.pathOdo + BitVec.ofNat 32 s.sc.prof.pathStep
        epoch := if s.pc.direction = .forward then s.pu.epoch + 1 else s.pu.epoch
        laying := if s.pc.direction = .forward then .laying else .reversing }))

/-- SPEED_UPDATE forms each wheel's speed by the cases of R9, the axle speed as their truncated mean, and the last-moving
stamp; the direction, the odometers, the line interface and every other unit stay (that the next update is measured from this
one is log entry 22). -/
def Obligations.SpeedUpdateForms : Prop :=
  ∀ (dt : Nat) (r : AxleRec) (k : Nat) (s : State), let u := s.elapse dt
    s.powered = true → s.runs = true → s.own = .axle k r → passed s.sched.speed u.now = true →
    ∃ t, exec (.speedUpdate dt) s = .next t ∧
      (∀ w : Side, let q := (s.pc.wheel w).queue
        (q = [] → t.pc.wheel w = ⟨[], 0⟩) ∧
        (∀ newest, q.getLast? = some newest → 400000 < (u.now - newest.time).toNat → t.pc.wheel w = ⟨[], 0⟩) ∧
        (∀ newest oldest, q.getLast? = some newest → q.head? = some oldest →
          (u.now - newest.time).toNat ≤ 400000 →
          (2 ≤ q.length → 0 < (newest.time - oldest.time).toNat →
            t.pc.wheel w = ⟨[newest],
              min ((q.length - 1) * r.pitch * 1000000 / (newest.time - oldest.time).toNat) 65535⟩) ∧
          (2 ≤ q.length → (newest.time - oldest.time).toNat = 0 → t.pc.wheel w = s.pc.wheel w) ∧
          (q.length = 1 → t.pc.wheel w = s.pc.wheel w))) ∧
      t.pc.axleSpeed = (t.pc.left.speed + t.pc.right.speed) / 2 ∧
      t.pc.direction = s.pc.direction ∧ t.pc.pathOdo = s.pc.pathOdo ∧ t.pc.ownOdo = s.pc.ownOdo ∧
      t.pv = { s.pv with lastMoving := if 0 < t.pc.axleSpeed then some u.now else s.pv.lastMoving } ∧
      t.sched = { s.sched with speed := some (u.now + 5000) } ∧ t.li = s.li ∧
      t.sc = s.sc ∧ t.cs = s.cs ∧ t.pu = s.pu ∧ t.su = s.su ∧ t.ju = s.ju ∧ t.bu = s.bu ∧ t.hu = s.hu ∧
      t.lu = s.lu ∧ t.du = s.du ∧ t.cu = s.cu

/-- ZERO_SPEED_TIMEOUT is the speed update that finds the wheel's newest edge older than 400,000 µs (that the command is the
due update is the model's reading, log entry 2): the wheel's speed is 0 and its queue is emptied, and the other wheel, the
axle speed and the stamp are as that SPEED_UPDATE leaves them. -/
def Obligations.ZeroSpeedTimesOut : Prop :=
  ∀ (dt : Nat) (w : Side) (r : AxleRec) (k : Nat) (newest : Snapshot) (s : State), let u := s.elapse dt
    s.powered = true → s.runs = true → s.own = .axle k r → passed s.sched.speed u.now = true →
    (s.pc.wheel w).queue.getLast? = some newest → 400000 < (u.now - newest.time).toNat →
    ∃ t, exec (.zeroSpeedTimeout dt w) s = .next t ∧ exec (.speedUpdate dt) s = .next t ∧ t.pc.wheel w = ⟨[], 0⟩ ∧
      t.pc.axleSpeed = (t.pc.left.speed + t.pc.right.speed) / 2

/-- CONVERSION_COMPLETE settles the trial, which stood at mid-scale since the selection, bit by bit into the code of the
input (R15), and moves the channel by the table of R18, one row for each condition and code, with CHANNEL_HOLD and CHANNEL_FAIL
raised where the table raises them; every other channel's record stays, the next channel is selected with its trial at 512, and
nothing else changes but the leading axle's path unit at a yaw completion. SCAN_START selects the role's lowest channel, measures
the next scan 2,000 µs from itself (log entry 22), and changes nothing else. That the bits settle at the completion is the
model's choice (log entry 25). -/
def Obligations.ConverterScan : Prop :=
  (∀ (dt : Nat) (s : State), let u := s.elapse dt
    s.powered = true → s.runs = true → s.own ≠ .absent → passed s.sched.scan u.now = true →
    exec (.scanStart dt) s = .next
      { u with cs := { u.cs with conv := some ⟨0, 512⟩ }, sched := { u.sched with scan := some (u.now + 2000) } }) ∧
  ∀ (dt : Nat) (code : BitVec 10) (i : Fin 8) (s : State),
    let c := s.cs.channels[i]
    let ok := 16 ≤ code.toNat ∧ code.toNat ≤ 1007
    let new := corrected (s.sc.prof.calibration s.own i.val) (channelRange s.own i.val) code
    s.powered = true → s.runs = true → s.cs.conv = some ⟨i, 512⟩ →
    ∃ t, exec (.conversionComplete dt code) s = .next t ∧
      (∀ j : Fin 8, j ≠ i → t.cs.channels[j] = s.cs.channels[j]) ∧
      t.cs.conv = (nextChannel i s.own.channelCount).map (fun j => ⟨j, 512⟩) ∧
      t = { s.elapse dt with cs := t.cs, pu := t.pu, li := { s.li with summary := t.li.summary } } ∧
      (s.own.isLeading = false ∨ i ≠ 7 → t.pu = s.pu) ∧
      (c.condition = .good → ok → t.cs.channels[i] = ⟨code, some new, .good, 0, 0⟩ ∧ t.li = s.li) ∧
      (c.condition = .good → ¬ok → t.cs.channels[i] = ⟨code, c.value, .holding, 1, 0⟩ ∧
        t.li.summary = insertKind .channelHold s.li.summary) ∧
      (c.condition = .holding → ¬ok → c.holdCount ≤ 8 →
        t.cs.channels[i] = ⟨code, c.value, .holding, c.holdCount + 1, 0⟩ ∧ t.li = s.li) ∧
      (c.condition = .holding → ¬ok → c.holdCount = 9 →
        t.cs.channels[i] = ⟨code, none, .failed, 10, 0⟩ ∧ t.li.summary = insertKind .channelFail s.li.summary) ∧
      (c.condition = .holding → ok → c.goodCount ≤ 3 →
        t.cs.channels[i] = ⟨code, c.value, .holding, c.holdCount, c.goodCount + 1⟩ ∧ t.li = s.li) ∧
      (c.condition = .holding → ok → c.goodCount = 4 →
        t.cs.channels[i] = ⟨code, some new, .good, 0, 0⟩ ∧ t.li = s.li) ∧
      (c.condition = .failed → ¬ok → t.cs.channels[i] = ⟨code, none, .failed, 10, 0⟩ ∧ t.li = s.li) ∧
      (c.condition = .failed → ok → c.goodCount ≤ 3 →
        t.cs.channels[i] = ⟨code, none, .failed, 10, c.goodCount + 1⟩ ∧ t.li = s.li) ∧
      (c.condition = .failed → ok → c.goodCount = 4 →
        t.cs.channels[i] = ⟨code, some new, .good, 0, 0⟩ ∧ t.li = s.li)

/-! ### The chassis line (02) -/

/-- CHARACTER_RECEIVED at its three instants (log entry 23). The leading edge of a start bit makes the line busy: the quiet time is
over, an idle wait begins again, and a frame whose gap has passed 20 bit times is bad (R23, R25); while the station sends it is
none (R28). That it is none inside a character, and that a stop bit of which no start bit was seen is not taken, are the model's
choices (log entry 23), and so is that it is none on an active line (log entry 43). At the stop bit: in the idle wait the wait
begins again; outside a frame only a good start character opens one; inside one, a body length above 25 ends it as bad, and the
last CRC character completes it with its detection time. A bad stop bit ends a frame as bad (R23), and the line stays busy, with no
quiet time and no idle wait running, until it is at the idle level again (R25); that the quiet time then counts from its return to
that level is the model's choice (log entry 43). Where the interface does not work, the line shows its level alone. -/
def Obligations.LineCharacters : Prop :=
  ∀ (dt : Nat) (char : Byte) (good : Bool) (s : State), let u := s.elapse dt
    let starts := exec (.characterReceived dt char .startBit) s
    let ends := exec (.characterReceived dt char (.stopBit good)) s
    let returns := exec (.characterReceived dt char .lineIdle) s
    let quietNow := { u with li := { u.li with startBit := none, frame := none, quiet := some u.now, lastChar := u.now } }
    let damaged := { u with li := { u.li with
      startBit := none, frame := none, quiet := none, lastChar := u.now, lineActive := true } }
    let inFrame := fun chars : List Byte => ({ u with li := { u.li with
      startBit := none, frame := some chars, quiet := none, lastChar := u.now } } : State)
    s.powered = true →
    (s.lineWorks = false ∨ s.li.mode = .off →
      starts = .next u ∧ returns = .next { u with li := { u.li with lineActive := false } } ∧
      ends = .next (if good then u else { u with li := { u.li with lineActive := true } })) ∧
    (s.lineWorks = true →
      (s.li.startBit ≠ none ∨ s.li.lineActive = true → starts = .next u) ∧
      (s.li.lineActive = false → returns = .next u) ∧
      (∀ since, s.li.mode = .waiting since →
        (s.li.startBit = none → s.li.lineActive = false →
          starts = .next { u with li := { u.li with mode := .waiting u.now, startBit := some u.now } }) ∧
        ends = .next { u with li := { u.li with
          mode := .waiting u.now, startBit := none, lineActive := s.li.lineActive || !good } } ∧
        (s.li.lineActive = true →
          returns = .next { u with li := { u.li with mode := .waiting u.now, lineActive := false } })) ∧
      (s.li.mode = .taking → s.li.sending ≠ none → starts = .next u ∧ ends = .next u) ∧
      (s.li.mode = .taking → s.li.sending = none → s.li.startBit = none →
        ends = .next (if good then u else { u with li := { u.li with quiet := none, lineActive := true } }) ∧
        (s.li.lineActive = false → starts = .next { u with li := { u.li with
          startBit := some u.now
          quiet := none
          frame := if 20 * s.sc.prof.bitTime < (u.now - s.li.lastChar).toNat then none else s.li.frame } }) ∧
        (s.li.lineActive = true → s.li.frame = none →
          returns = .next { u with li := { u.li with quiet := some u.now, lineActive := false } })) ∧
      (s.li.mode = .taking → s.li.sending = none → s.li.startBit ≠ none →
        (good = false → ends = .next damaged) ∧
        (s.li.frame = none → good = true →
          (char = 0xC3 → ends = .next (inFrame [])) ∧ (char ≠ 0xC3 → ends = .next quietNow)) ∧
        (∀ chars, s.li.frame = some chars → good = true →
          (chars.length = 2 → 25 < char.toNat → ends = .next quietNow) ∧
          (3 ≤ chars.length → chars.length + 1 = 5 + byteAt chars 2 →
            ends = .next { quietNow with li := { quietNow.li with complete := some ⟨chars ++ [char], u.now⟩ } }) ∧
          ((chars.length < 2 ∨ (chars.length = 2 ∧ char.toNat ≤ 25) ∨
              (3 ≤ chars.length ∧ chars.length + 1 < 5 + byteAt chars 2)) →
            ends = .next (inFrame (chars ++ [char]))))))

/-- FRAME_GAP_TIMEOUT ends a frame as bad, the quiet time counting from the instant the gap passed 20 bit times;
IDLE_WAIT_COMPLETE opens the receive half; neither comes about while a character is arriving, its start bit seen, or while the
line stands at the active level after a bad stop bit (R25);
TRANSMIT_COMPLETE ends the own frame and sets the quiet time. -/
def Obligations.LineTimes : Prop :=
  ∀ (dt : Nat) (s : State), let u := s.elapse dt
    s.powered = true → s.lineWorks = true →
    (s.li.startBit ≠ none ∨ s.li.lineActive = true →
      exec (.frameGapTimeout dt) s = .next u ∧ exec (.idleWaitComplete dt) s = .next u) ∧
    (s.li.startBit = none → s.li.lineActive = false → s.li.frame ≠ none → 20 * s.sc.prof.bitTime < (u.now - s.li.lastChar).toNat →
      exec (.frameGapTimeout dt) s = .next { u with li := { u.li with
        frame := none, quiet := some (s.li.lastChar + BitVec.ofNat 32 (20 * s.sc.prof.bitTime)) } }) ∧
    (∀ since, s.li.startBit = none → s.li.lineActive = false → s.li.mode = .waiting since → 20 * s.sc.prof.bitTime ≤ (u.now - since).toNat →
      exec (.idleWaitComplete dt) s = .next { u with li := { u.li with mode := .taking, quiet := some since } }) ∧
    (∀ f, s.li.sending = some f → f.chars.length * 10 * s.sc.prof.bitTime ≤ (u.now - f.start).toNat →
      exec (.transmitComplete dt) s = .next { u with li := { u.li with
        sending := none, quiet := some u.now, lastChar := u.now } })

/-- FRAME_BEGIN: a pending frame whose slot starts on a quiet line leaves the transmit set and goes in flight with its
contents of that moment; a STATUS and a DEMAND advance their sequences, a NOTICE empties the summary and, at the CAB, is a notice
arrival at that moment; a STATUS of an INERT axle station draws a free value (the model's choice, log entry 12); nothing else
changes. While a start bit has made the line busy, or the line stands at the active level, no frame
begins (R25, R31). That a pending frame of higher rank may begin when the
slot of the lowest has passed in the round is the model's choice (log entry 44). -/
def Obligations.FrameBegins : Prop :=
  ∀ (dt : Nat) (kind : FrameKind) (s : State), let u := s.elapse dt
    s.powered = true →
    (s.li.startBit ≠ none ∨ s.li.lineActive = true → exec (.frameBegin dt kind) s = .next u) ∧
    (u.mayBegin kind = true →
      ∃ t body, exec (.frameBegin dt kind) s = .next t ∧ u.bodyNow kind = some body ∧
        t.li = { s.li with
          pending := s.li.pending.set false kind
          quiet := none
          sending := some ⟨kind, 0xC3 :: frameChars kind s.sc.strap body, u.now⟩
          statusSeq := s.li.statusSeq + (if kind = .status then 1 else 0)
          demandSeq := s.li.demandSeq + (if kind = .demand then 1 else 0)
          summary := if kind = .notice then [] else s.li.summary } ∧
        (kind = .status → body = u.ownStatus.body) ∧ (kind = .notice → body = noticeBody s.li.summary) ∧
        (∀ p, kind = .path → s.pu.newest = some p → body = p.body) ∧
        (∀ q, kind = .demand → s.pv.demand.record = some q → body = { q with seq := s.li.demandSeq }.body) ∧
        t = { u with li := t.li, cu := t.cu, draws := t.draws } ∧
        t.draws = (if kind = .status ∧ s.own.isAxle = true ∧ s.sc.station = .inert then s.draws + 1 else s.draws) ∧
        (s.own ≠ .cab ∨ kind ≠ .notice → t.cu = s.cu) ∧ t.cu = { s.cu with telltales := t.cu.telltales } ∧
        (s.own = .cab → kind = .notice → ∀ g,
          ((∃ k ∈ s.li.summary, k.group = g) →
            t.cu.telltales.row g = { s.cu.telltales.row g with last := some u.now }) ∧
          ((∀ k ∈ s.li.summary, k.group ≠ g) → t.cu.telltales.row g = s.cu.telltales.row g)))

/-- No frame begins but in its own slot: when a frame goes in flight, it was pending, nothing was in flight or being received,
no start bit had made the line busy, the line was at the idle level, and the quiet time was a whole number of rounds of 19 slots plus the kind's wait rank, in slots of 12 bit times (R30, R31). -/
def Obligations.FramesBeginInTheirSlots : Prop :=
  ∀ (c : Instr) (s t : State), exec c s = .next t → s.li.sending = none → t.li.sending ≠ none →
    ∃ (dt : Nat) (kind : FrameKind) (q : Time) (m : Nat), c = .frameBegin dt kind ∧
      s.li.pending.has kind = true ∧ s.li.frame = none ∧ s.li.startBit = none ∧ s.li.lineActive = false ∧ s.li.quiet = some q ∧
      s.sc.station.sends kind = true ∧
      ((s.elapse dt).now - q).toNat = (19 * m + waitRank kind s.sc.strap) * 12 * s.sc.prof.bitTime

/-- STATUS_REQUEST requests a STATUS and NOTICE_INTERVAL requests a NOTICE if the summary is not empty; each measures its next
time one period on (from the request taken, log entry 22), and a kind already pending stays pending once. -/
def Obligations.PeriodicRequests : Prop :=
  ∀ (dt : Nat) (s : State), let u := s.elapse dt
    s.powered = true →
    (s.lineWorks = true → passed s.sched.status u.now = true →
      exec (.statusRequest dt) s = .next
        { u with
          sched := { u.sched with status := some (later u.now s.sc.prof.statusPeriod) }
          li := { u.li with pending := { u.li.pending with status := true } } }) ∧
    (s.runs = true → passed s.sched.notice u.now = true →
      exec (.noticeInterval dt) s = .next
        { u with
          sched := { u.sched with notice := some (later u.now s.sc.prof.noticePeriod) }
          li := { u.li with pending :=
            { u.li.pending with notice := u.li.pending.notice || decide (u.li.summary ≠ []) } } })

/-- The fate of a complete frame is that of the first check of R27 that fails, in the rule's order: the CRC (discarded), a kind
of 1 to 4 (malformed), the body length the kind requires (discarded), a sender of 0 to 7 (malformed), a sender other than the own
number (duplicate), a sender listed present (unlisted), a kind allowed from it (malformed), every field in its range (malformed);
a frame that passes all is accepted. FRAME_RECEIVED then discards a frame in silence, or raises MALFORMED_FRAME,
UNLISTED_STATION or DUPLICATE_STATION, a duplicate in LISTENING making the station INERT (an axle station's hold unit HELD); in
INERT no frame is checked. An accepted NOTICE is reported to station control and, at the CAB, sets the last-notice time of each
group of its kinds. -/
def Obligations.FrameFates : Prop :=
  (∀ (p : Profile) (own : Fin 8) (chars : List Byte),
    let covered := chars.take (3 + byteAt chars 2)
    let body := covered.drop 3
    (wordBytes (crc16 covered) ≠ chars.drop (3 + byteAt chars 2) → judge p own chars = .discarded) ∧
    (wordBytes (crc16 covered) = chars.drop (3 + byteAt chars 2) →
      (byteAt chars 0 = 0 ∨ 4 < byteAt chars 0 → judge p own chars = .malformed) ∧
      ∀ kind, byteAt chars 0 = kindCode kind →
        (lengthOk kind body = false → judge p own chars = .discarded) ∧
        (lengthOk kind body = true →
          (8 ≤ byteAt chars 1 → judge p own chars = .malformed) ∧
          ∀ n : Fin 8, byteAt chars 1 = n.val →
            (n = own → judge p own chars = .duplicate) ∧
            (n ≠ own → p.station n = .absent → judge p own chars = .unlisted) ∧
            (n ≠ own → p.station n ≠ .absent →
              let allowed := (kind = .path → (p.station n).isLeading = true) ∧ (kind = .demand → n = 0)
              (¬allowed → judge p own chars = .malformed) ∧
              (allowed → frameOf kind (p.station n) body = none → judge p own chars = .malformed) ∧
              (∀ f, allowed → frameOf kind (p.station n) body = some f → judge p own chars = .accepted n f))))) ∧
  ∀ (dt : Nat) (locks : LockLevels) (f : CompleteFrame) (s : State), let u := s.elapse dt
    let taken := { u with li := { u.li with complete := none } }
    s.powered = true → s.li.complete = some f →
    (s.sc.station = .inert → exec (.frameReceived dt locks) s = .next taken) ∧
    (s.runs = true → judge s.sc.prof s.sc.strap f.chars = .discarded →
      exec (.frameReceived dt locks) s = .next taken) ∧
    (s.runs = true → judge s.sc.prof s.sc.strap f.chars = .malformed →
      exec (.frameReceived dt locks) s = .next (taken.raise .malformedFrame)) ∧
    (s.runs = true → judge s.sc.prof s.sc.strap f.chars = .unlisted →
      exec (.frameReceived dt locks) s = .next (taken.raise .unlistedStation)) ∧
    (s.runs = true → judge s.sc.prof s.sc.strap f.chars = .duplicate →
      (s.sc.station ≠ .listening →
        exec (.frameReceived dt locks) s = .next (taken.raise .duplicateStation)) ∧
      (s.sc.station = .listening → ∃ t, exec (.frameReceived dt locks) s = .next t ∧
        t.sc.station = .inert ∧ t.sc.duplicate = true ∧ .duplicateStation ∈ t.li.summary ∧
        t.li.pending.status = true ∧ t.li.pending.notice = true ∧ t.hu.valve = false ∧
        (s.own.isAxle = true → t.hu.state = .held))) ∧
    (∀ n kinds, s.runs = true → judge s.sc.prof s.sc.strap f.chars = .accepted n (.notice kinds) →
      let arrival := f.detected - BitVec.ofNat 32 s.sc.prof.latency
      ∃ t, exec (.frameReceived dt locks) s = .next t ∧ t = { taken with sc := t.sc, cu := t.cu } ∧
        t.sc.lastPeer = some arrival ∧ t.sc.station = (if s.sc.station = .isolated then .active else s.sc.station) ∧
        t.cu = { s.cu with telltales := t.cu.telltales } ∧ (s.own ≠ .cab → t.cu = s.cu) ∧
        (s.own = .cab → ∀ g,
          ((∃ k ∈ kinds, k.group = g) → t.cu.telltales.row g = { s.cu.telltales.row g with last := some arrival }) ∧
          ((∀ k ∈ kinds, k.group ≠ g) → t.cu.telltales.row g = s.cu.telltales.row g)))

/-- FRAME_RECEIVED for an accepted STATUS: the peer's record is replaced whole with its arrival time and becomes FRESH, the
last-peer stamp is set, the heard flag is set in LISTENING, and ISOLATED becomes ACTIVE; no unit but the path unit changes. A
following axle or a joint empties its path queue, with no queue epoch, at a STATUS of the leading axle that shows LISTENING, INERT
or the direction REVERSE (R61), and at every other STATUS, as at every other station, the queue and its epoch stay. The
last-moving stamp becomes the present local time when the station knew no axle speed and now knows one, and otherwise the
arrival time when the record shows a speed above 0; it stays in every other case (R45; which stamp is taken when both apply is
log entry 11). -/
def Obligations.StatusAccepted : Prop :=
  ∀ (dt : Nat) (locks : LockLevels) (f : CompleteFrame) (n : Fin 8) (r : StatusRec) (s : State),
    let arrival := f.detected - BitVec.ofNat 32 s.sc.prof.latency
    s.powered = true → s.runs = true → s.li.complete = some f →
    judge s.sc.prof s.sc.strap f.chars = .accepted n (.status r) →
    ∃ t, exec (.frameReceived dt locks) s = .next t ∧
      t.pv.peers[n] = ⟨some r, arrival, .fresh, some r.signature⟩ ∧
      (∀ m : Fin 8, m ≠ n → t.pv.peers[m] = s.pv.peers[m]) ∧ t.pv.demand = s.pv.demand ∧
      t.sc.lastPeer = some arrival ∧ (s.sc.station = .listening → t.sc.heard = true) ∧
      t.sc.station = (if s.sc.station = .isolated then .active else s.sc.station) ∧
      (r.signature ≠ s.sc.signature → s.pv.peers[n].lastSignature ≠ some r.signature →
        .profileMismatch ∈ t.li.summary) ∧
      (let empties := r.station = .listening ∨ r.station = .inert ∨ ∃ a, r.part = .axle a ∧ a.direction = .reverse
       let acts := (s.own.isFollowing = true ∨ s.own.isJoint = true) ∧ s.sc.prof.leading = some n ∧ empties
       (acts → t.pu.queue = [] ∧ t.pu.queueEpoch = none) ∧ (¬acts → t.pu = s.pu)) ∧
      (let u := s.elapse dt
       (u.knownSpeeds = [] → t.knownSpeeds ≠ [] → t.pv.lastMoving = some u.now) ∧
        (u.knownSpeeds ≠ [] ∨ t.knownSpeeds = [] →
          (∀ v, r.speed? = some v → 0 < v → t.pv.lastMoving = some arrival) ∧
          (r.speed? = none ∨ r.speed? = some 0 → t.pv.lastMoving = s.pv.lastMoving))) ∧
      t = { s.elapse dt with
        sc := t.sc, pv := { s.pv with peers := t.pv.peers, lastMoving := t.pv.lastMoving },
        pu := { s.pu with queue := t.pu.queue, queueEpoch := t.pu.queueEpoch },
        li := { s.li with complete := none, summary := t.li.summary } }

/-- FRAME_RECEIVED for an accepted DEMAND: the record is replaced whole and becomes FRESH, a stale episode ends with an empty
frozen list, and the hold-request start follows R46 (whether the record before counted as FRESH is read from its stored mark, log
entry 9). A clear count that differs from the acted-on one is a clear event (R51). It clears the STEER and LEVEL latches. It clears
a set HOLD latch, from which an apply under way counts again, its confirm start kept, and leaves a hold unit without one as it was
(R142). It clears every obstruction latch with its count; a door in FAULT goes to LOCKED if its lock switch is active at that
instant and to LOCKING otherwise, its actuator off and its deadline 500,000 µs on; the other doors, the number of doors and their
order stay (R180). That a door so LOCKED has its count at 0 too is the model's reading (log entry 20). -/
def Obligations.DemandAccepted : Prop :=
  ∀ (dt : Nat) (locks : LockLevels) (f : CompleteFrame) (n : Fin 8) (r : DemandRec) (s : State),
    let u := s.elapse dt
    let arrival := f.detected - BitVec.ofNat 32 s.sc.prof.latency
    s.powered = true → s.runs = true → s.li.complete = some f →
    judge s.sc.prof s.sc.strap f.chars = .accepted n (.demand r) →
    ∃ t, exec (.frameReceived dt locks) s = .next t ∧
      t.pv.demand = ⟨some r, arrival, .fresh⟩ ∧ t.pv.episode = false ∧ t.pv.frozen = [] ∧
      t.pv.actedClear = some r.clear ∧
      (r.hold = .none → t.pv.holdStart = none) ∧
      (r.hold = .hold → (s.pv.demand.freshness ≠ .fresh ∨ s.pv.demand.record.map (·.hold) ≠ some .hold) →
        t.pv.holdStart = some arrival) ∧
      (r.hold = .hold → s.pv.demand.freshness = .fresh → s.pv.demand.record.map (·.hold) = some .hold →
        t.pv.holdStart = s.pv.holdStart) ∧
      (s.pv.actedClear = none ∨ s.pv.actedClear = some r.clear →
        t.su = s.su ∧ t.hu = s.hu ∧ t.lu = s.lu ∧ t.du = s.du) ∧
      (∀ c, s.pv.actedClear = some c → c ≠ r.clear →
        t.su = { s.su with latch := false } ∧ t.lu = { s.lu with levelLatch := false } ∧
        (s.hu.latch = false → t.hu = s.hu) ∧
        (s.hu.latch = true → t.hu = { s.hu with
          latch := false
          applyStart := if s.hu.state = .applying then some u.now else s.hu.applyStart }) ∧
        t.du = { s.du with doors := t.du.doors } ∧ t.du.doors.map (·.number) = s.du.doors.map (·.number) ∧
        ∀ (k : Nat) (d : Door), k < 2 → s.du.doors[k]? = some d →
          let home := if k = 0 then locks.first else locks.second
          ∃ e, t.du.doors[k]? = some e ∧
            (d.state = .fault → home = true → e = { d with
              state := .locked, latch := false, count := 0, deadline := none, lockedFault := false, heldFault := false
              lockActuator := false, drive := .off }) ∧
            (d.state = .fault → home = false → e = { d with
              state := .locking, latch := false, count := if d.latch then 0 else d.count
              deadline := some (u.now + 500000), lockedFault := false, heldFault := false, lockActuator := false, drive := .off }) ∧
            (d.state ≠ .fault → e = { d with latch := false, count := if d.latch then 0 else d.count })) ∧
      t = { u with
        sc := t.sc, su := t.su, hu := t.hu, lu := t.lu, du := t.du, li := { s.li with complete := none },
        pv := { t.pv with peers := s.pv.peers, lastMoving := s.pv.lastMoving } }

/-- FRAME_RECEIVED for an accepted PATH. At a following axle or a joint: the intake cases of R60, with the capacity kept, a break
marked beyond four path steps, and PATH_OVERRUN raised at a full queue alone. Every case that takes a point sets a following axle's
lag reference to its own odometer and withdraws PATH_LAG (R68); a stale point, and a joint, leave them. At the leading axle and at
the CAB the point is dropped with no effect but the report of a valid peer frame (R27). -/
def Obligations.PathIntakeCases : Prop :=
  ∀ (dt : Nat) (locks : LockLevels) (f : CompleteFrame) (n : Fin 8) (p : PathPoint) (s : State),
    let arrival := f.detected - BitVec.ofNat 32 s.sc.prof.latency
    let only := [(⟨p.distance, p.tangent, p.section_, p.epoch, false⟩ : QueuePoint)]
    let full := s.sc.prof.queueCapacity ≤ s.pu.queue.length
    let rearms := fun t : State =>
      (s.own.isFollowing = true → t.pu.lagRef = some s.pc.ownOdo ∧ t.pu.lagStands = false) ∧
      (s.own.isJoint = true → t.pu.lagRef = s.pu.lagRef ∧ t.pu.lagStands = s.pu.lagStands)
    let reported : State := { s.elapse dt with
      li := { s.li with complete := none }
      sc := { s.sc with
        heard := if s.sc.station = .listening then true else s.sc.heard
        lastPeer := some arrival
        station := if s.sc.station = .isolated then .active else s.sc.station } }
    s.powered = true → s.runs = true →
    s.li.complete = some f → judge s.sc.prof s.sc.strap f.chars = .accepted n (.path p) →
    (s.own.isLeading = true ∨ s.own = .cab → exec (.frameReceived dt locks) s = .next reported) ∧
    (s.own.isFollowing = true ∨ s.own.isJoint = true →
      ∃ t, exec (.frameReceived dt locks) s = .next t ∧
        (s.pu.queue = [] ∨ s.pu.queueEpoch ≠ some p.epoch →
          t.pu.queue = only ∧ t.pu.queueEpoch = some p.epoch ∧ rearms t ∧ t.li.summary = s.li.summary) ∧
        (∀ x, s.pu.queue.getLast? = some x → s.pu.queueEpoch = some p.epoch →
          ((p.distance - x.distance).toInt ≤ 0 → t.pu = s.pu ∧ t.li.summary = s.li.summary) ∧
          (0 < (p.distance - x.distance).toInt →
            t.pu.queue = (if full then s.pu.queue.drop 1 else s.pu.queue) ++
                [⟨p.distance, p.tangent, p.section_, p.epoch,
                  decide ((4 * s.sc.prof.pathStep : Nat) < (p.distance - x.distance).toInt)⟩] ∧
            t.pu.queueEpoch = s.pu.queueEpoch ∧ rearms t ∧
            t.li.summary = (if full then insertKind .pathOverrun s.li.summary else s.li.summary))) ∧
        t = { reported with
          li := { reported.li with summary := t.li.summary }
          pu := { s.pu with
            queue := t.pu.queue
            queueEpoch := t.pu.queueEpoch
            lagRef := t.pu.lagRef
            lagStands := t.pu.lagStands } })

/-- STATUS_EXPIRY takes a FRESH record older than three STATUS periods to STALE with LINK_LOSS raised for a listed peer;
DEMAND_EXPIRY takes a DEMAND record older than 30,000 µs to STALE; STALE_EPISODE_BEGIN sets the frozen release list to the
released doors that the station does not own LOCKED, and raises FALLBACK_STOP. -/
def Obligations.PeerExpiries : Prop :=
  ∀ (dt : Nat) (s : State), let u := s.elapse dt
    s.powered = true → s.runs = true →
    (∀ n : Fin 8, n ≠ s.sc.strap → s.pv.peers[n].freshness = .fresh →
      s.sc.prof.statusLimit < (u.now - s.pv.peers[n].arrival).toNat →
      ∃ t, exec (.statusExpiry dt n) s = .next t ∧
        t.pv.peers[n] = { s.pv.peers[n] with freshness := .stale } ∧
        (∀ m : Fin 8, m ≠ n → t.pv.peers[m] = s.pv.peers[m]) ∧
        t.li.summary =
          (if (s.sc.prof.station n).isPresent then insertKind .linkLoss s.li.summary else s.li.summary) ∧
        t = { u with pv := { s.pv with peers := t.pv.peers }, li := { s.li with summary := t.li.summary } }) ∧
    (s.own ≠ .cab → s.pv.demand.freshness = .fresh → 30000 < (u.now - s.pv.demand.arrival).toNat →
      exec (.demandExpiry dt) s = .next
        { u with pv := { u.pv with demand := { u.pv.demand with freshness := .stale } } }) ∧
    (∀ r, s.pv.demand.freshness = .stale → s.pv.demand.record = some r → s.pv.episode = false →
      230000 < (u.now - s.pv.demand.arrival).toNat →
      exec (.staleEpisodeBegin dt) s = .next
        { u with
          pv := { u.pv with
            episode := true
            frozen := r.release.filter fun d =>
              !(s.du.doors.any fun e => e.number == d && decide (e.state = .locked)) }
          li := { u.li with summary := insertKind .fallbackStop u.li.summary } })

/-! ### Steering (04) -/

/-- A following axle in LOCKED unlocks at an update exactly when the follow conditions hold and the lookup gives a value;
otherwise it stays LOCKED with its lock engaged and command and set-point 0 (R74, R93). That the next update is measured from
this one is log entry 22. -/
def Obligations.SteerUnlocks : Prop :=
  ∀ (dt : Nat) (r : AxleRec) (k : Nat) (s : State), let u := s.elapse dt
    s.powered = true → u.steeringDue = true → s.own = .axle k r → s.su.state = .locked →
    ∃ t, exec (.steeringUpdate dt) s = .next t ∧
      (∀ x, u.followConditions r = true → lookupAt (u.axlePosition r) s.pu.queue = .value x →
        t.su = { s.su with
          state := .lockRelease, command := 0, setPoint := 0, lockValve := true, releaseStart := some u.now, trackStart := none }) ∧
      (u.followConditions r = false ∨ lookupAt (u.axlePosition r) s.pu.queue = .noPath ∨
          lookupAt (u.axlePosition r) s.pu.queue = .brk →
        t.su = { s.su with command := 0, setPoint := 0, lockValve := false, trackStart := none }) ∧
      t.pu = { s.pu with queue := trim (u.axlePosition r) s.pu.queue } ∧ t.li = s.li ∧
      t.sched = { s.sched with steering := some (u.now + 5000) }

/-- A following axle leaves LOCKED only at a due steering update in ACTIVE at which the lookup gives a value and all eight
follow conditions hold: the leading axle FRESH, ACTIVE or ISOLATED, and FORWARD, every joint angle ahead known, the profiles
agreeing, no STEER latch, a steer angle value, no PATH_LAG and a known reference speed below v2 (R73, R74). A leading axle leaves
it for LEADING, and a reset may come. -/
def Obligations.SteerLeavesLockedOnly : Prop :=
  ∀ (c : Instr) (s t : State), exec c s = .next t → s.su.state = .locked → t.su.state ≠ .locked →
    (t.su.state = .leading ∧ t.own.isLeading = true) ∨
      (t.su.state = .lockRelease ∧ ∃ r v, let u := s.elapse (elapsedOf c)
        s.own.axle? = some r ∧ u.steeringDue = true ∧ s.sc.station = .active ∧
        (∃ n rec, s.sc.prof.leading = some n ∧ u.freshStatus n = some rec ∧ rec.station.drives = true) ∧
        u.leadingDirection = some .forward ∧
        (∀ j ∈ s.sc.prof.jointsOf r, (u.jointAngle j.1).isSome = true) ∧ u.profileAgreement = true ∧
        s.su.latch = false ∧ (s.channel 6).reading.isSome = true ∧ s.pu.lagStands = false ∧
        u.refSpeed = some v ∧ v < s.sc.prof.v2 ∧ ∃ x, lookupAt (u.axlePosition r) s.pu.queue = .value x)

/-- The three steering times, each a due steering update (log entry 2): the end of the lock release takes the axle to
FOLLOWING, HOLDING or CENTRING by its readings, which are not acted on before it (R75); without a steer angle a settled centring axle locks; a tracking excess of
300,000 µs raises STEER_FAULT and sets the STEER latch. -/
def Obligations.SteerTimes : Prop :=
  ∀ (dt : Nat) (r : AxleRec) (k : Nat) (s : State), let u := s.elapse dt
    let found := lookupAt (u.axlePosition r) s.pu.queue
    s.powered = true → u.steeringDue = true → s.own = .axle k r →
    (s.su.state = .lockRelease → lasted s.su.releaseStart 100000 u.now = true →
      ∃ t, exec (.lockReleaseTimeEnd dt) s = .next t ∧ t.su.releaseStart = none ∧ t.su.lockValve = true ∧
        t.su.setPoint = t.su.command ∧
        t.su.state =
          (match u.followConditions r, found with
           | true, .value _ => .following
           | true, .brk => .holding
           | _, _ => .centring)) ∧
    (s.su.state = .lockRelease → lasted s.su.releaseStart 100000 u.now = false →
      ∃ t, exec (.steeringUpdate dt) s = .next t ∧ t.su.state = .lockRelease ∧ t.su.command = s.su.command ∧
        t.su.releaseStart = s.su.releaseStart ∧ t.su.lockValve = true) ∧
    (s.su.state = .centring → s.su.command = 0 → (s.channel 6).reading = none →
      lasted s.su.zeroStart 300000 u.now = true →
      ∃ t, exec (.centringSettleEnd dt) s = .next t ∧ t.su.state = .locked ∧ t.su.lockValve = false ∧
        t.su.command = 0 ∧ t.su.setPoint = 0 ∧ t.su.zeroStart = none) ∧
    (∀ m, (s.su.state = .following ∨ s.su.state = .holding ∨ s.su.state = .centring) → s.su.latch = false →
      (s.channel 6).reading = some m → 300 < (m - s.su.command).natAbs →
      lasted s.su.trackStart 300000 u.now = true →
      ∃ t, exec (.trackingTimeEnd dt) s = .next t ∧ t.su.latch = true ∧ t.su.trackStart = none ∧
        .steerFault ∈ t.li.summary)

/-- The steer command at an update of FOLLOWING, HOLDING or CENTRING. With the follow conditions and a path value: the lookup's
tangent less the section heading, in cdeg, times the follow gain, clamped to the limit of the reference speed and of the body's
height, reached by the rate step R (R76, R77, R81 to R87). From FOLLOWING and HOLDING, with the conditions and a BREAK: HOLDING,
the command moving by R toward itself clamped to the limit (R76, R77, R88); with a condition failing or NO_PATH: CENTRING with its
first step, R toward 0 (R76 to R78). From CENTRING without both: a command that stood at 0 locks when the measured angle lies
within 50 cdeg (R79), stays at 0 beyond it, or, with no angle, until the settle time has run (R80); any other takes the next step,
the zero-command start being stored when the command first reaches 0 (R78). The conditions are read after the tracking check of
the same update. -/
def Obligations.FollowCommand : Prop :=
  ∀ (dt : Nat) (r : AxleRec) (k : Nat) (s : State), let u := s.elapse dt
    let p := s.sc.prof
    let bySpeed := match u.refSpeed with
      | none => 0
      | some v => if v ≤ p.v1 then p.fullLimit else if v < p.v2 then p.fullLimit * (p.v2 - v) / (p.v2 - p.v1) else 0
    let limit := if s.lu.level = .ride then bySpeed else min bySpeed p.kneelLimit
    let toward := fun target : Int =>
      if (target - s.su.command).natAbs ≤ p.rateStep then target
      else if s.su.command < target then s.su.command + p.rateStep else s.su.command - p.rateStep
    let holds := (trackingCheck u).followConditions r = true
    let found := lookupAt (u.axlePosition r) s.pu.queue
    let zeroFrom := fun c : Int => if c = 0 then some (s.su.zeroStart.getD u.now) else s.su.zeroStart
    s.powered = true → u.steeringDue = true → s.own = .axle k r →
    (s.su.state = .following ∨ s.su.state = .holding ∨ s.su.state = .centring) →
    ∃ t, exec (.steeringUpdate dt) s = .next t ∧ t.su.setPoint = t.su.command ∧
      (t.su.lockValve = true ↔ t.su.state ≠ .locked) ∧
      (s.su.command.natAbs ≤ limit → t.su.command.natAbs ≤ limit) ∧
      (∀ x, holds → found = .value x →
        let cdeg := roundDiv ((x - u.sectionHeading r).toInt * 36000) 65536
        t.su.state = .following ∧ t.su.zeroStart = none ∧
          t.su.command = toward (clampInt (-(limit : Int)) limit (roundDiv (cdeg * r.followGain) 256))) ∧
      (s.su.state ≠ .centring → holds → found = .brk →
        t.su.state = .holding ∧ t.su.command = toward (clampInt (-(limit : Int)) limit s.su.command)) ∧
      (s.su.state ≠ .centring → ¬holds ∨ found = .noPath →
        t.su.state = .centring ∧ t.su.command = toward 0 ∧ t.su.zeroStart = zeroFrom (toward 0)) ∧
      (s.su.state = .centring → ¬(holds ∧ ∃ x, found = .value x) →
        let locks := s.su.command = 0 ∧ ((∃ m, (s.channel 6).reading = some m ∧ m.natAbs ≤ 50) ∨
          ((s.channel 6).reading = none ∧ lasted s.su.zeroStart 300000 u.now = true))
        (locks → t.su.state = .locked ∧ t.su.command = 0 ∧ t.su.zeroStart = none) ∧
        (¬locks → t.su.state = .centring ∧ t.su.command = toward 0 ∧ t.su.zeroStart = zeroFrom (toward 0)))

/-! ### Joint guard (05) -/

/-- JOINT_UPDATE selects the joint state by the table of R99 from that update's readings, and forms the damping command from
it, the output equal to the command; beyond the end limit the command is 100. -/
def Obligations.JointStateAndDamping : Prop :=
  ∀ (dt : Nat) (r : JointRec) (k : Nat) (s : State), let u := s.elapse dt
    s.powered = true → u.jointDue = true → s.drives = true → s.own = .joint k r → r.d0 ≤ 100 →
    ∃ t, exec (.jointUpdate dt) s = .next t ∧ t.ju.output = t.ju.damping ∧
      ((s.channel 0).reading = none → t.ju.state = .fault ∧ t.ju.angle = 0 ∧ t.ju.damping = 100 ∧ t.ju.risk = true) ∧
      (∀ m, (s.channel 0).reading = some m →
        t.ju.angle = m ∧
        t.ju.state =
          (if u.leadingDirection = some .reverse then .reverse
           else if (u.expected r).isSome then .tracking else .static) ∧
        t.ju.beyondEnd = decide (r.endLimit < m.natAbs) ∧
        (r.endLimit < m.natAbs → t.ju.damping = 100) ∧
        (m.natAbs ≤ r.endLimit → ∀ x, u.leadingDirection ≠ some .reverse → u.expected r = some x →
          t.ju.damping = clampNat r.d0 100
            (r.d0 + (r.d1 - r.d0) * min (u.refSpeed.getD r.vHi) r.vHi / r.vHi +
              (BitVec.ofInt 16 m - BitVec.ofInt 16 x).toInt.natAbs * r.kd / 256)) ∧
        (m.natAbs ≤ r.endLimit → (u.leadingDirection = some .reverse ∨ u.expected r = none) →
          t.ju.damping = clampNat r.d0 100
            (max (r.d0 + (r.d1 - r.d0) * min (u.refSpeed.getD r.vHi) r.vHi / r.vHi) 60)))

/-- A joint update sets RISK exactly on the conditions of R100 (an unknown reference speed counting as at speed and as moving),
raises JACKKNIFE_RISK at a change from NONE to RISK and JOINT_END at a passage beyond the end limit and nothing else (R102,
R104), and counts the clear time while none of them holds (R101). The three joint times, each a due joint update (log entry 2): a
risk-clear start 300,000 µs old clears the risk; a damper-low start 1,000,000 µs old sets the damper-lost standing and RISK; a
damper-good start 300,000 µs old clears the standing. That the check reads the reset command of 100 % where no update has written
one is log entry 47. In LISTENING an update trims the path queue to its newest point at or behind
s_rear and those ahead of it, and leaves the whole joint unit, outputs and STATUS fields, as it was (R67, R96); that the next
update is measured from this one is log entry 22. -/
def Obligations.JointTimes : Prop :=
  (∀ (dt : Nat) (r : JointRec) (k : Nat) (s : State), let u := s.elapse dt
    s.powered = true → u.jointDue = true → s.drives = true → s.own = .joint k r →
    (∃ t, exec (.jointUpdate dt) s = .next t ∧
      let fast := ∀ v, u.refSpeed = some v → 1400 ≤ v
      let moves := ∀ v, u.refSpeed = some v → 0 < v
      let sets := t.ju.damperLost = true ∨ t.ju.state = .fault ∨
        (t.ju.state = .tracking ∧ fast ∧ ∃ x, u.expected r = some x ∧
          r.eOn < (BitVec.ofInt 16 t.ju.angle - BitVec.ofInt 16 x).toInt.natAbs) ∨
        (t.ju.state = .static ∧ r.staticLimit < t.ju.angle.natAbs ∧ fast) ∨
        (t.ju.state = .reverse ∧ r.reverseLimit < t.ju.angle.natAbs ∧ moves)
      (sets → t.ju.risk = true ∧ t.ju.clearStart = none) ∧
      (¬sets → s.ju.risk = false → t.ju.risk = false ∧ t.ju.clearStart = none) ∧
      (¬sets → s.ju.risk = true → riskClears r (u.jointView r) = false →
        t.ju.risk = true ∧ t.ju.clearStart = none) ∧
      (¬sets → s.ju.risk = true → riskClears r (u.jointView r) = true →
        (s.ju.clearStart = none ∨ s.ju.state ≠ t.ju.state) → t.ju.risk = true ∧ t.ju.clearStart = some u.now) ∧
      (let risked := if s.ju.risk = false ∧ t.ju.risk = true then insertKind .jackknifeRisk s.li.summary
          else s.li.summary
       t.li.summary =
         if s.ju.beyondEnd = false ∧ t.ju.beyondEnd = true then insertKind .jointEnd risked else risked)) ∧
    (s.ju.risk = true → s.ju.damperLost = false → s.ju.lowStart = none →
      lasted s.ju.clearStart 300000 u.now = true → s.ju.state = (u.jointView r).state →
      riskSet r u.refSpeed (u.jointView r) = false → riskClears r (u.jointView r) = true →
      ∃ t, exec (.riskClearTimeEnd dt) s = .next t ∧ t.ju.risk = false ∧ t.ju.clearStart = none) ∧
    (∀ p, (s.channel 1).reading = some p → p < 150 → 60 ≤ s.ju.damping →
      lasted s.ju.lowStart 1000000 u.now = true →
      ∃ t, exec (.damperLowTimeEnd dt) s = .next t ∧ t.ju.damperLost = true ∧ t.ju.risk = true ∧
        t.ju.lowStart = none ∧ (s.ju.risk = false → .jackknifeRisk ∈ t.li.summary)) ∧
    (∀ p, (s.channel 1).reading = some p → 150 ≤ p → s.ju.damperLost = true →
      lasted s.ju.goodStart 300000 u.now = true →
      ∃ t, exec (.damperGoodTimeEnd dt) s = .next t ∧ t.ju.damperLost = false)) ∧
  ∀ (dt : Nat) (r : JointRec) (k : Nat) (s : State), let u := s.elapse dt
    s.powered = true → u.jointDue = true → s.sc.station = .listening → s.own = .joint k r →
    ∃ t, exec (.jointUpdate dt) s = .next t ∧ t = { u with
        pu := { u.pu with queue := t.pu.queue }, sched := { u.sched with joint := some (u.now + 10000) } } ∧
      (u.rearPosition r = none → t.pu.queue = s.pu.queue) ∧
      (∀ rear, u.rearPosition r = some rear →
        ((∀ y ∈ s.pu.queue, 0 < (y.distance - rear).toInt) → t.pu.queue = s.pu.queue) ∧
        ((∃ y ∈ s.pu.queue, (y.distance - rear).toInt ≤ 0) →
          ∃ older p ahead, s.pu.queue = older ++ p :: ahead ∧ t.pu.queue = p :: ahead ∧
            (p.distance - rear).toInt ≤ 0 ∧ ∀ y ∈ ahead, 0 < (y.distance - rear).toInt))

/-! ### Braking (06) -/

/-- BRAKE_UPDATE forms the load from both spring pressures unless it is frozen or a pressure is missing (R110, R111), settles
the reverse-stop standing, raising REVERSE_STOP as it is set (R113), and forms the axle demand: the demanded deceleration, while
the standing is set at least the reverse-stop one (R112, R113), times the load in use, the full-scale load if none is formed
(R114), stretched by the greatest stretch of the joints at risk ahead while the leading direction is FORWARD (R115), clamped to
the pressure limit (R116). While slip control is inactive both wheels stand in APPLY with target and set-point at the axle demand
(R117, R122); in LISTENING it forms the load alone. That the next update is measured from this one is log entry 22. -/
def Obligations.BrakeDemandForms : Prop :=
  ∀ (dt : Nat) (r : AxleRec) (k : Nat) (s : State), let u := s.elapse dt
    s.powered = true → u.brakeDue = true → s.own = .axle k r →
    ∃ t, exec (.brakeUpdate dt) s = .next t ∧
      t.sched = { s.sched with brake := some (u.now + 5000) } ∧ t.bu.frozen = s.bu.frozen ∧
      (∀ a b, s.bu.frozen = none → (s.channel 2).reading = some a → (s.channel 3).reading = some b →
        t.bu.load = some (((a + b) * r.springFactor).tdiv 256 + r.unsprung).toNat) ∧
      (s.bu.frozen ≠ none ∨ (s.channel 2).reading = none ∨ (s.channel 3).reading = none → t.bu.load = s.bu.load) ∧
      (s.drives = false → t.bu = { s.bu with load := t.bu.load } ∧ t.li = s.li) ∧
      (s.drives = true →
        let stops := s.bu.reverseStop = false ∧ u.standstill = false ∧ u.leadingDirection = some .reverse ∧
          ∃ n ∈ s.sc.prof.joints, u.jointRisk n = some true
        let a := if t.bu.reverseStop then max u.effectiveDemand.brake s.sc.prof.reverseStop else u.effectiveDemand.brake
        let load := match s.bu.frozen with
          | some l => l
          | none => t.bu.load.getD (2400 * r.springFactor / 256 + r.unsprung)
        let base := roundDiv ((load * a / 100 : Nat) : Int) r.brakeGain
        (t.bu.reverseStop = true ↔ (s.bu.reverseStop = true ∧ u.standstill = false) ∨ stops) ∧
        (.reverseStop ∈ t.li.summary ↔ stops ∨ .reverseStop ∈ s.li.summary) ∧
        (∀ x, u.leadingDirection = some .forward → (u.stretches r).max? = some x →
          t.bu.demand = (clampInt 0 s.sc.prof.pMax (roundDiv (base * (256 + x : Nat)) 256)).toNat) ∧
        (u.leadingDirection ≠ some .forward ∨ u.stretches r = [] →
          t.bu.demand = (clampInt 0 s.sc.prof.pMax base).toNat) ∧
        t.bu.demand ≤ s.sc.prof.pMax ∧
        (s.hu.state.applied = true ∨ a = 0 ∨ u.refSpeed = none ∨ (∃ v, u.refSpeed = some v ∧ v < 1000) →
          t.bu.left = ⟨.apply, t.bu.demand, t.bu.demand, 0⟩ ∧ t.bu.right = ⟨.apply, t.bu.demand, t.bu.demand, 0⟩))

/-- The slip rows at a brake update with slip control active, for both wheels, each by its own slip (R117 to R121): a wheel in
APPLY follows the axle demand up to a slip of 150 ‰ and goes to RELEASE above it, which alone raises SLIP_ACTIVE (R118, R123); in
RELEASE it lowers its target by 40 kPa until its slip falls below 80 ‰, which takes it to HOLD_P; the three rows of HOLD_P; in
REAPPLY it raises its target by 10 kPa until it reaches the demand, or goes back to RELEASE. The target never stands above the
axle demand of the update (R122), and the set-point is the target. -/
def Obligations.SlipHoldRows : Prop :=
  ∀ (dt : Nat) (r : AxleRec) (k v : Nat) (s : State), let u := s.elapse dt
    let slipOn := fun x : Side => (((v : Int) - (s.pc.wheel x).speed) * 1000).tdiv v
    s.powered = true → u.brakeDue = true → s.own = .axle k r → s.drives = true →
    u.refSpeed = some v → 1000 ≤ v → s.hu.state.applied = false →
    ∃ t, exec (.brakeUpdate dt) s = .next t ∧
      (0 < u.effectiveDemand.brake ∨ (t.bu.reverseStop = true ∧ 0 < s.sc.prof.reverseStop) →
        (.slipActive ∈ t.li.summary ↔ .slipActive ∈ s.li.summary ∨
          (s.bu.left.slip = .apply ∧ 150 < slipOn .left) ∨ (s.bu.right.slip = .apply ∧ 150 < slipOn .right)) ∧
        ∀ (w w' : BrakeWheel) (slip : Int),
          (w = s.bu.left ∧ w' = t.bu.left ∧ slip = slipOn .left ∨
            w = s.bu.right ∧ w' = t.bu.right ∧ slip = slipOn .right) →
          w'.setPoint = w'.target ∧
          (w.slip ≠ .release → 150 < slip →
            w'.slip = .release ∧ w'.target = min (w.target - 40) t.bu.demand ∧ w'.holdGood = 0) ∧
          (w.slip = .apply → slip ≤ 150 → w'.slip = .apply ∧ w'.target = t.bu.demand) ∧
          (w.slip = .release → 80 ≤ slip → w'.slip = .release ∧ w'.target = min (w.target - 40) t.bu.demand) ∧
          (w.slip = .release → slip < 80 →
            w'.slip = .holdP ∧ w'.target = min w.target t.bu.demand ∧ w'.holdGood = 0) ∧
          (w.slip = .holdP → 80 ≤ slip → slip ≤ 150 →
            w'.slip = .holdP ∧ w'.target = min w.target t.bu.demand ∧ w'.holdGood = 0) ∧
          (w.slip = .holdP → slip < 80 → w.holdGood + 1 < 3 →
            w'.slip = .holdP ∧ w'.target = min w.target t.bu.demand ∧ w'.holdGood = w.holdGood + 1) ∧
          (w.slip = .holdP ∧ slip < 80 ∧ 3 ≤ w.holdGood + 1 ∨ w.slip = .reapply ∧ slip ≤ 150 →
            w'.holdGood = 0 ∧
            (w.target + 10 < t.bu.demand → w'.slip = .reapply ∧ w'.target = w.target + 10) ∧
            (t.bu.demand ≤ w.target + 10 → w'.slip = .apply ∧ w'.target = t.bu.demand)))

/-! ### The cab unit (06 to 10) -/

/-- CAB_UPDATE in ACTIVE or ISOLATED: the chosen travel and quality by the table of R128, the brake demand from it, and the
DEMAND record formed, written into the own entry and requested; with the hold switch off every list and the kneel request are
empty; an acknowledge press advances the clear count. -/
def Obligations.CabFormsDemand : Prop :=
  ∀ (dt : Nat) (i : CabInputs) (s : State), let u := s.elapse dt
    let a := (s.channel 0).goodReading
    let b := (s.channel 1).goodReading
    s.powered = true → u.cabDue = true → s.drives = true →
    ∃ t rec, exec (.cabUpdate dt i) s = .next t ∧ t.pv.demand = ⟨some rec, u.now, .fresh⟩ ∧
      t.li.pending.demand = true ∧
      (∀ x y, a = some x → b = some y → t.cu.quality = .both ∧
        ((x - y).natAbs ≤ 10 → t.cu.chosen = some ((x + y).tdiv 2)) ∧
        (10 < (x - y).natAbs → t.cu.chosen = some (max x y))) ∧
      (∀ x, a = some x → b = none → t.cu.chosen = some x ∧ t.cu.quality = .one) ∧
      (∀ y, a = none → b = some y → t.cu.chosen = some y ∧ t.cu.quality = .one) ∧
      (a = none → b = none → t.cu.chosen = none ∧ t.cu.quality = .fallback) ∧
      (∀ x, t.cu.chosen = some x → 5 < x → t.cu.brake = ((800 * (x - 5)).tdiv 95).toNat) ∧
      (∀ x, t.cu.chosen = some x → x ≤ 5 → t.cu.brake = 0) ∧
      (t.cu.chosen = none → t.cu.brake = if u.standstill then 0 else s.sc.prof.fallback) ∧
      rec.brake = t.cu.brake ∧ rec.quality = t.cu.quality ∧ rec.clear = t.cu.clearCount ∧
      rec.seq = s.li.demandSeq ∧ rec.kneel = t.cu.kneelLatch ∧
      rec.hold = (if i.holdSwitch then .hold else .none) ∧
      (i.holdSwitch = false → rec.kneel = .none ∧ rec.release = [] ∧ rec.opens = []) ∧
      (i.holdSwitch = true →
        (∀ d, d ∈ rec.release ↔ (∃ x ∈ s.sc.prof.doors, x.number = d) ∧ i.release.getLsbD (d - 1) = true) ∧
        (∀ d, d ∈ rec.opens ↔ (∃ x ∈ s.sc.prof.doors, x.number = d) ∧ i.opens.getLsbD (d - 1) = true)) ∧
      (s.cu.ackUnread = false → i.acknowledge = true → s.cu.ack = false →
        t.cu.clearCount = s.cu.clearCount + 1) ∧
      (i.acknowledge = false ∨ s.cu.ack = true → t.cu.clearCount = s.cu.clearCount) ∧
      t.sc = s.sc ∧ t.pc = s.pc ∧ t.cs = s.cs ∧ t.pu = s.pu ∧ t.ju = s.ju ∧ t.bu = s.bu ∧
      t.li = { s.li with pending := t.li.pending } ∧ t.pv.peers = s.pv.peers ∧ t.pv.holdStart = s.pv.holdStart

/-- CAB_UPDATE moves the kneel-request latch by the table of R167 from the presses, counting a button only where it read
released at the update before; LAMP_TEST_END ends the lamp test, and in LISTENING no DEMAND record is formed. After the lamp test each telltale is lit exactly
while its group's last notice is at most 2,000,000 µs old or a FRESH STATUS shows a latch of the group. -/
def Obligations.CabKneelAndLamps : Prop :=
  ∀ (dt : Nat) (i : CabInputs) (s : State), let u := s.elapse dt
    s.powered = true →
    (∀ b : ButtonLevels, u.cabDue = true → s.drives = true → i.holdSwitch = true → s.cu.buttons = some b →
      let left := i.kneelLeft = true ∧ b.left = false
      let right := i.kneelRight = true ∧ b.right = false
      let raise := i.raise = true ∧ b.raise = false
      ∃ t, exec (.cabUpdate dt i) s = .next t ∧ t.cu.buttons = some ⟨i.kneelLeft, i.kneelRight, i.raise⟩ ∧
        (raise → t.cu.kneelLatch = .none) ∧
        (¬raise → left → right → t.cu.kneelLatch = .both) ∧
        (¬raise → left → ¬right →
          t.cu.kneelLatch = if s.cu.kneelLatch = .none ∨ s.cu.kneelLatch = .left then .left else .both) ∧
        (¬raise → ¬left → right →
          t.cu.kneelLatch = if s.cu.kneelLatch = .none ∨ s.cu.kneelLatch = .right then .right else .both) ∧
        (¬raise → ¬left → ¬right → t.cu.kneelLatch = s.cu.kneelLatch)) ∧
    (u.cabDue = true → s.sc.station = .listening →
      ∃ t, exec (.cabUpdate dt i) s = .next t ∧ t.pv = s.pv ∧ t.li = s.li ∧ t.cu.kneelLatch = s.cu.kneelLatch ∧
        t.cu.ack = i.acknowledge) ∧
    (s.own = .cab → s.cu.lampOver = false → lasted s.cu.lampStart 2000000 u.now = true →
      exec (.lampTestEnd dt) s = .next { u with cu := { u.cu with lampOver := true } }) ∧
    (u.cabDue = true → s.cu.lampOver = true → ∃ t, exec (.cabUpdate dt i) s = .next t ∧
      ∀ g, (t.cu.telltales.row g).last = (s.cu.telltales.row g).last ∧
        ((t.cu.telltales.row g).lit = true ↔
          (∃ a, (s.cu.telltales.row g).last = some a ∧ (u.now - a).toNat ≤ 2000000) ∨
            ∃ n r, t.freshStatus n = some r ∧ r.latches.shows g = true))

/-! ### Stop hold (07) -/

/-- HOLD_UPDATE in ACTIVE or ISOLATED from each of the five hold states: the whole next state, by the request read, STANDSTILL,
the confirmation measure and the release conditions (R134 to R141). In APPLYING it is said for an update whose fault check does
not act; the confirmation and the fault are another statement's. That the next update is measured from this one is log entry 22. -/
def Obligations.HoldTransitions : Prop :=
  ∀ (dt : Nat) (s : State), let u := s.elapse dt
    let q := u.effectiveDemand.hold
    let after := fun h : HoldUnit => ({ u with
      hu := { h with request := some q }, sched := { u.sched with hold := some (u.now + 10000) } } : State)
    let apply : HoldUnit := { s.hu with
      state := .applying, valve := false, applyStart := some u.now, confirmStart := none, releaseStart := none }
    let release : HoldUnit := { s.hu with
      state := .releasing, valve := true, applyStart := none, confirmStart := none, releaseStart := some u.now }
    let free := u.effectiveDemand.hold = .none ∧ u.allDoorsLocked = true ∧ s.lu.level = .ride ∧ s.hu.latch = false
    s.powered = true → u.holdDue = true → s.drives = true →
    (s.hu.state = .off →
      (q = .hold → u.standstill = true → exec (.holdUpdate dt) s = .next (after apply)) ∧
      (q = .none ∨ u.standstill = false → exec (.holdUpdate dt) s = .next (after s.hu))) ∧
    (s.hu.state = .applying →
      let began := s.hu.confirmStart.getD u.now
      let confirmed := u.bothConfirm = true ∧ 100000 ≤ (u.now - began).toNat
      (s.hu.latch = true ∨ confirmed ∨ lasted s.hu.applyStart 1000000 u.now = false) →
        (free → exec (.holdUpdate dt) s = .next (after release)) ∧
        (¬free → confirmed →
          exec (.holdUpdate dt) s = .next (after { s.hu with state := .held, confirmStart := none })) ∧
        (¬free → ¬confirmed → exec (.holdUpdate dt) s = .next (after { s.hu with
          confirmStart := if u.bothConfirm then some began else none }))) ∧
    (s.hu.state = .held →
      (q = .none → exec (.holdUpdate dt) s = .next (after { s.hu with state := .releasePending })) ∧
      (q = .hold → exec (.holdUpdate dt) s = .next (after s.hu))) ∧
    (s.hu.state = .releasePending →
      (q = .hold → exec (.holdUpdate dt) s = .next (after { s.hu with state := .held, confirmStart := none })) ∧
      (free → exec (.holdUpdate dt) s = .next (after release)) ∧
      (q = .none → ¬free → exec (.holdUpdate dt) s = .next (after s.hu))) ∧
    (s.hu.state = .releasing →
      (q = .hold → exec (.holdUpdate dt) s = .next (after apply)) ∧
      (q = .none → lasted s.hu.releaseStart 200000 u.now = true →
        exec (.holdUpdate dt) s = .next (after { s.hu with state := .off, releaseStart := none })) ∧
      (q = .none → lasted s.hu.releaseStart 200000 u.now = false → exec (.holdUpdate dt) s = .next (after s.hu))) ∧
    HoldState.field .held = .held ∧ HoldState.field .releasePending = .held

/-- The three hold times, each a due hold update (log entry 2): a confirmation 100,000 µs old takes APPLYING to HELD, unless
the release conditions hold; an apply start 1,000,000 µs old without confirmation raises HOLD_FAULT and sets the HOLD latch in
APPLYING; a release start 200,000 µs old takes RELEASING to OFF, unless the request is HOLD. -/
def Obligations.HoldTimes : Prop :=
  ∀ (dt : Nat) (s : State), let u := s.elapse dt
    let q := u.effectiveDemand.hold
    s.powered = true → u.holdDue = true →
    (s.hu.state = .applying → u.bothConfirm = true → lasted s.hu.confirmStart 100000 u.now = true →
      (s.drives = false ∨ q = .hold ∨ u.allDoorsLocked = false ∨ s.lu.level ≠ .ride ∨ s.hu.latch = true) →
      ∃ t, exec (.confirmTimeEnd dt) s = .next t ∧ t.hu.state = .held ∧ t.hu.confirmStart = none ∧
        t.hu.latch = s.hu.latch ∧ t.hu.valve = s.hu.valve ∧ t.li = s.li) ∧
    (s.hu.state = .applying → s.hu.latch = false → u.bothConfirm = false →
      lasted s.hu.applyStart 1000000 u.now = true →
      ∃ t, exec (.applyFaultTimeEnd dt) s = .next t ∧ t.hu.state = .applying ∧ t.hu.latch = true ∧
        t.hu.valve = s.hu.valve ∧ t.li.summary = insertKind .holdFault s.li.summary) ∧
    (s.hu.state = .releasing → s.drives = true → lasted s.hu.releaseStart 200000 u.now = true → q = .none →
      ∃ t, exec (.releaseTimeEnd dt) s = .next t ∧ t.hu.state = .off ∧ t.hu.valve = s.hu.valve ∧
        t.hu.releaseStart = none)

/-- The release rule of the whole machine: the hold valve passes from applied to released only at a hold update in ACTIVE or
ISOLATED that reads the request NONE, ALL_DOORS_LOCKED, the level state RIDE and no HOLD latch, and then the release start is
stored and the apply and confirm starts are cleared; at every reset the valve is applied. -/
def Obligations.HoldReleasesOnly : Prop :=
  (∀ (c : Instr) (s t : State), exec c s = .next t → s.hu.valve = false → t.hu.valve = true →
    let u := s.elapse (elapsedOf c)
    s.drives = true ∧ u.holdDue = true ∧ u.effectiveDemand.hold = .none ∧ u.allDoorsLocked = true ∧
      s.lu.level = .ride ∧ s.hu.latch = false ∧
      (s.hu.state = .applying ∨ s.hu.state = .releasePending) ∧ t.hu.state = .releasing ∧
      t.hu.releaseStart = some u.now ∧ t.hu.applyStart = none ∧ t.hu.confirmStart = none) ∧
  (∀ n b l (s : State), ∃ t, exec (.powerOn n b l) s = .next t ∧ t.hu.valve = false) ∧
  (∀ dt lowFor l (s : State), s.powered = true → s.sc.station ≠ .inert → 10 ≤ lowFor →
    ∃ t, exec (.restart dt lowFor l) s = .next t ∧ t.hu.valve = false)

/-! ### Ride height and kneeling (08) -/

/-- The kneel phase at a level update of an axle station in ACTIVE or ISOLATED with no abort pending. At one at which every
condition of R158 holds and both height channels present a value: the named corners take the kneel target and every other the
ride height, and the load is frozen; KNEELING on the requested sides, unless a corner's settle time ends in FAULT at the same
update, which ends the kneel in RAISING (R161). A request of NONE takes KNEELING and KNELT to RAISING with no sides and both
targets at ride height (R161). At STANDSTILL, KNEELING becomes KNELT exactly when every named corner is within ±5 mm of its
target or has its floor bar set (R160), unless a corner faults; RAISING becomes NONE, and the load's freeze ends, when both
corners were STEADY within ±4 mm of the ride height or had their floor bar set, the level state reading RIDE where both are within
(R157, R161). That the next update is measured from this one is log entry 22. -/
def Obligations.KneelBegins : Prop :=
  (∀ (dt : Nat) (a b : Int) (s : State), let u := s.elapse dt
    let q := u.effectiveDemand.kneel
    let low := max ((s.sc.prof.rideHeight : Int) - s.sc.prof.kneelDrop) s.sc.prof.kneelFloor
    s.powered = true → u.levelDue = true → s.drives = true →
    (s.lu.kneel = .none ∨ s.lu.kneel = .raising) → q ≠ .none → s.hu.state.isHeld = true → u.standstill = true →
    s.lu.kneelLatch = false → s.lu.abort = false → s.lu.restartFault = false →
    (s.channel 0).reading = some a → (s.channel 1).reading = some b →
    s.lu.left.phase ≠ .fault → s.lu.right.phase ≠ .fault →
    ∃ t, exec (.levelUpdate dt false) s = .next t ∧
      (let faults := ∃ x, (t.lu.corner x).phase = .fault
       (¬faults → t.lu.kneel = .kneeling ∧ t.lu.sides = q ∧ t.lu.level = .kneeling) ∧
        (faults → t.lu.kneel = .raising ∧ t.lu.sides = .none ∧ t.lu.level = .fault)) ∧
      (∀ x, (t.lu.corner x).phase = .fault →
        (s.lu.corner x).phase = .settling ∧ lasted (s.lu.corner x).settleStart 300000 u.now = true) ∧
      t.lu.left.target = (if q.names .left then low else s.sc.prof.rideHeight) ∧
      t.lu.right.target = (if q.names .right then low else s.sc.prof.rideHeight) ∧
      t.lu.left.height = some a ∧ t.lu.right.height = some b ∧
      (s.lu.kneel = .none → t.bu.frozen = some u.loadInUse) ∧ (s.lu.kneel = .raising → t.bu.frozen = s.bu.frozen) ∧
      t.sched.level = some (u.now + 50000)) ∧
  (∀ (dt : Nat) (s : State), let u := s.elapse dt
    s.powered = true → u.levelDue = true → s.drives = true → s.lu.abort = false →
    (s.lu.kneel = .kneeling ∨ s.lu.kneel = .knelt) → u.effectiveDemand.kneel = .none →
    ∃ t, exec (.levelUpdate dt false) s = .next t ∧ t.lu.kneel = .raising ∧ t.lu.sides = .none ∧
      t.lu.left.target = s.sc.prof.rideHeight ∧ t.lu.right.target = s.sc.prof.rideHeight ∧ t.bu = s.bu) ∧
  (∀ (dt : Nat) (a b : Int) (s : State), let u := s.elapse dt
    s.powered = true → u.levelDue = true → s.drives = true → s.lu.abort = false → u.standstill = true →
    (s.channel 0).reading = some a → (s.channel 1).reading = some b →
    (s.lu.kneel = .kneeling → u.effectiveDemand.kneel ≠ .none →
      let down := (s.lu.sides.names .left = true → (a - s.lu.left.target).natAbs ≤ 5 ∨ s.lu.left.floorBar = true) ∧
        (s.lu.sides.names .right = true → (b - s.lu.right.target).natAbs ≤ 5 ∨ s.lu.right.floorBar = true)
      ∃ t, exec (.levelUpdate dt false) s = .next t ∧ t.bu = s.bu ∧
        ((∀ x, (t.lu.corner x).phase ≠ .fault) →
          t.lu.sides = s.lu.sides ∧ (down → t.lu.kneel = .knelt ∧ t.lu.level = .knelt) ∧
          (¬down → t.lu.kneel = .kneeling ∧ t.lu.level = .kneeling))) ∧
    (s.lu.kneel = .raising → u.effectiveDemand.kneel = .none → s.lu.restartFault = false →
      s.lu.left.phase = .steady → s.lu.right.phase = .steady →
      ((a - s.sc.prof.rideHeight).natAbs ≤ 4 ∨ s.lu.left.floorBar = true) →
      ((b - s.sc.prof.rideHeight).natAbs ≤ 4 ∨ s.lu.right.floorBar = true) →
      ∃ t, exec (.levelUpdate dt false) s = .next t ∧ t.lu.kneel = .none ∧ t.bu.frozen = none ∧
        ((a - s.sc.prof.rideHeight).natAbs ≤ 4 → (b - s.sc.prof.rideHeight).natAbs ≤ 4 → t.lu.level = .ride)))

/-- No kneel begins but under the conditions of R158: when the kneel phase enters KNEELING or KNELT from NONE or RAISING, the
station is ACTIVE or ISOLATED and the effective request names a side, the hold is HELD or RELEASE_PENDING, STANDSTILL holds,
no abort is pending, neither corner was in FAULT, the kneel latch is clear and the command is a level update that read the
skirt contact not active. -/
def Obligations.KneelBeginsOnly : Prop :=
  ∀ (c : Instr) (s t : State), exec c s = .next t → s.lu.kneel.lowered = false → t.lu.kneel.lowered = true →
    let u := s.elapse (elapsedOf c)
    (∃ dt x, c = .levelUpdate dt false ∨ c = .pulseLimitEnd dt x false ∨ c = .settleTimeEnd dt x false) ∧
      u.levelDue = true ∧ s.drives = true ∧ u.effectiveDemand.kneel ≠ .none ∧ s.hu.state.isHeld = true ∧
      u.standstill = true ∧ s.lu.kneelLatch = false ∧ s.lu.abort = false ∧ s.lu.left.phase ≠ .fault ∧
      s.lu.right.phase ≠ .fault ∧ t.lu.kneel = .kneeling ∧ t.lu.sides = u.effectiveDemand.kneel

/-- Pulses of either corner (PULSE_LIMIT_END and SETTLE_TIME_END are due level updates, log entry 2). The height is the newest sample
at STANDSTILL and else the truncated mean of the last eight (R152); the deadband is 4 or 8 mm, the half band 2 or 4 mm, the next
update 50,000 or 250,000 µs on (R151; measured from this one, log entry 22). A STEADY corner outside the deadband opens its fill or
exhaust valve, an exhaust being barred below 100 kPa (R153). A pulse closes into CLOSING, with a closure end 40,000 µs on, inside
the half band, an exhaust also below 100 kPa, or, as PULSE_LIMIT_END finds it, 2,000,000 µs old (R154); a CLOSING corner takes no
step. SETTLE_TIME_END makes a corner STEADY, or FAULT with LEVEL_TIMEOUT at the fourth pulse without movement (R155); a pulse has one
check, so four more pulses follow a TIMEOUT (that a pulse never checked is checked after a CHANNEL fault is log entry 35's reading).
FAULT is left to SETTLING, of cause TIMEOUT only with the LEVEL latch clear (R156). A channel without a value takes a corner to FAULT
of cause CHANNEL, its valves shut and its closure end kept (of FILLING and EXHAUSTING, log entry 45); a kneel then ends in RAISING,
unless an abort pends (R161). The first update after a restart that kept the LEVEL latch takes both corners to FAULT of cause TIMEOUT
(R165; of a latch cleared before it, log entry 18). In LISTENING no valve opens and no kneel begins; with both corners STEADY and both
heights known the level state is RIDE exactly when both are within the deadband (R164). -/
def Obligations.CornerPulses : Prop :=
  (∀ (dt : Nat) (side : Side) (a : Int) (s : State), let u := s.elapse dt
    let target := s.sc.prof.rideHeight
    let c := s.lu.corner side
    let samples := (if 8 ≤ c.history.length then c.history.drop 1 else c.history) ++ [a]
    let h : Int := if u.standstill then a else samples.sum.tdiv samples.length
    let band : Int := if u.standstill then 4 else 8
    let half : Int := if u.standstill then 2 else 4
    let low := ∃ p, (s.channel (springChannel side)).reading = some p ∧ p < 100
    let closes := fun x : Corner => x.phase = .closing ∧ x.closureEnd = some (u.now + 40000) ∧ x.fillValve = false ∧
      x.exhaustValve = false
    let opens := fun x : Corner => x.pulseStart = some u.now ∧ x.pulseHeight = some h ∧ x.unchecked = true
    s.powered = true → u.levelDue = true → s.drives = true → s.lu.abort = false →
    s.lu.kneel = .none → u.effectiveDemand.kneel = .none → s.lu.restartFault = false →
    (s.channel (heightChannel side)).reading = some a →
    (∃ t, exec (.levelUpdate dt false) s = .next t ∧
      t.sched.level = some (u.now + if u.standstill then 50000 else 250000) ∧ let x := t.lu.corner side
      x.history = samples ∧ x.height = some h ∧ x.target = target ∧
      (c.phase = .steady →
        (h - target < -band → x.phase = .filling ∧ x.fillValve = true ∧ opens x) ∧
        (band < h - target → ¬low → x.phase = .exhausting ∧ x.exhaustValve = true ∧ opens x) ∧
        (band < h - target → low → x.phase = .steady ∧ x.floorBar = true) ∧
        (-band ≤ h - target → h - target ≤ band → x.phase = .steady ∧ x.floorBar = false)) ∧
      (c.phase = .filling →
        (-half ≤ h - target → closes x) ∧
        (h - target < -half → lasted c.pulseStart 2000000 u.now = false →
          x.phase = .filling ∧ x.fillValve = c.fillValve)) ∧
      (c.phase = .exhausting →
        (h - target ≤ half ∨ low → closes x) ∧
        (half < h - target → ¬low → lasted c.pulseStart 2000000 u.now = false →
          x.phase = .exhausting ∧ x.exhaustValve = c.exhaustValve)) ∧
      (c.phase = .closing → x.phase = .closing ∧ x.closureEnd = c.closureEnd) ∧
      (c.phase = .fault →
        (c.cause = .channel ∨ (c.cause = .timeout ∧ s.lu.levelLatch = false) →
          x.phase = .settling ∧ x.settleStart = some u.now ∧ x.progress = 0 ∧ x.cause = .none) ∧
        (c.cause = .timeout → s.lu.levelLatch = true →
          x.phase = .fault ∧ x.cause = .timeout ∧ x.progress = c.progress)) ∧
      (c.phase ≠ .steady → x.pulseStart = c.pulseStart ∧ x.pulseHeight = c.pulseHeight) ∧
      (c.phase ≠ .steady → c.phase ≠ .settling → x.unchecked = c.unchecked)) ∧
    ((c.phase = .filling ∨ c.phase = .exhausting) → lasted c.pulseStart 2000000 u.now = true →
      ∃ t, exec (.pulseLimitEnd dt side false) s = .next t ∧ closes (t.lu.corner side)) ∧
    (c.phase = .settling → lasted c.settleStart 300000 u.now = true →
      ∃ t, exec (.settleTimeEnd dt side false) s = .next t ∧ let x := t.lu.corner side
        x.unchecked = false ∧
        (c.unchecked = false ∨ c.pulseHeight = none → c.progress ≤ 3 → x.phase = .steady ∧ x.progress = c.progress) ∧
        (∀ was, c.unchecked = true → c.pulseHeight = some was →
          (2 ≤ (h - was).natAbs → x.phase = .steady ∧ x.progress = 0) ∧
          ((h - was).natAbs < 2 → c.progress < 3 → x.phase = .steady ∧ x.progress = c.progress + 1) ∧
          ((h - was).natAbs < 2 → c.progress = 3 →
            x.phase = .fault ∧ x.cause = .timeout ∧ x.progress = 4 ∧ t.lu.levelLatch = true ∧ t.lu.level = .fault ∧
              .levelTimeout ∈ t.li.summary)))) ∧
  (∀ (dt : Nat) (side : Side) (s : State), let u := s.elapse dt
    let c := s.lu.corner side
    s.powered = true → u.levelDue = true → s.lu.restartFault = false →
    (s.channel (heightChannel side)).reading = none →
    ∃ t, exec (.levelUpdate dt false) s = .next t ∧ t.lu.level = .fault ∧ let x := t.lu.corner side
      x.phase = .fault ∧ x.cause = (if c.phase = .fault then c.cause else .channel) ∧
      (c.phase ≠ .fault → x.fillValve = false ∧ x.exhaustValve = false) ∧
      x.history = c.history ∧ x.height = c.height ∧ x.progress = c.progress ∧ x.closureEnd = c.closureEnd ∧
      (c.phase ≠ .fault → s.drives = true → s.lu.abort = false →
        ((s.lu.kneel = .kneeling ∨ s.lu.kneel = .knelt) → t.lu.kneel = .raising ∧ t.lu.sides = .none ∧ t.bu = s.bu) ∧
        t.lu.kneel.lowered = false) ∧
      (s.lu.abort = true → t.lu.abort = true ∧ t.lu.kneel = s.lu.kneel ∧ t.lu.sides = s.lu.sides)) ∧
  (∀ (dt : Nat) (s : State), let u := s.elapse dt
    s.powered = true → u.levelDue = true → s.lu.restartFault = true →
    (s.lu.levelLatch = true → ∃ t, exec (.levelUpdate dt false) s = .next t ∧ t.lu.level = .fault ∧
      t.lu.levelLatch = true ∧ t.lu.restartFault = false ∧ t.li = s.li ∧
      ∀ x, (t.lu.corner x).phase = .fault ∧ (t.lu.corner x).cause = .timeout ∧ (t.lu.corner x).fillValve = false ∧
        (t.lu.corner x).exhaustValve = false) ∧
    (s.lu.levelLatch = false → exec (.levelUpdate dt false) s =
      exec (.levelUpdate dt false) { s with lu := { s.lu with restartFault := false } })) ∧
  ∀ (dt : Nat) (skirt : Bool) (s : State), let u := s.elapse dt
    let band : Int := if u.standstill then 4 else 8
    s.powered = true → u.levelDue = true → s.sc.station = .listening → s.lu.kneel = .none → s.lu.restartFault = false →
    ∃ t, exec (.levelUpdate dt skirt) s = .next t ∧ t.lu.kneel = .none ∧ t.bu = s.bu ∧
      (∀ x, let c := s.lu.corner x
        let y := t.lu.corner x
        (c.fillValve = false → y.fillValve = false) ∧ (c.exhaustValve = false → y.exhaustValve = false) ∧
        y.target = s.sc.prof.rideHeight ∧ y.pulseStart = c.pulseStart ∧
        (c.phase = .steady → y.phase = if ((s.channel (heightChannel x)).reading).isSome then .steady else .fault) ∧
        (c.phase = .fault → c.cause = .channel →
          y.phase = if ((s.channel (heightChannel x)).reading).isSome then .settling else .fault)) ∧
      ((∀ x, (s.lu.corner x).phase = .steady ∧ (s.lu.corner x).floorBar = false ∧
          (s.channel (heightChannel x)).reading ≠ none) →
        (t.lu.level = .ride ∨ t.lu.level = .levelling) ∧
        (t.lu.level = .ride ↔
          ∀ x, ∃ h, (t.lu.corner x).height = some h ∧ ((h - s.sc.prof.rideHeight).natAbs : Int) ≤ band))

/-- CLOSURE_COMPLETE takes a CLOSING corner to SETTLING with the closure end as its settle start and clears the closure end
(that it is cleared is the model's choice, log entry 48); the last closure of a
pending abort resolves it: RAISING, no sides, both targets at ride height. That a closure still in flight on a corner that went
to FAULT delays the resolution, and that the level state then reads FAULT rather than RAISING, is the model's reading (log
entry 15). -/
def Obligations.ClosureAndAbort : Prop :=
  ∀ (dt : Nat) (side : Side) (e : Time) (s : State), let u := s.elapse dt
    s.powered = true → s.runs = true → s.own.isAxle = true → (s.lu.corner side).phase = .closing →
    (s.lu.corner side).closureEnd = some e → 0 ≤ (u.now - e).toInt →
    ∃ t, exec (.closureComplete dt side) s = .next t ∧
      (t.lu.corner side).phase = .settling ∧ (t.lu.corner side).settleStart = some e ∧
      (t.lu.corner side).closureEnd = none ∧
      (s.lu.abort = false → t.lu.kneel = s.lu.kneel ∧ t.lu.level = s.lu.level ∧ t.bu = s.bu) ∧
      (s.lu.abort = true → (∀ x, x ≠ side → (s.lu.corner x).closureEnd ≠ none) →
        t.lu.abort = true ∧ t.lu.kneel = s.lu.kneel) ∧
      (s.lu.abort = true → (∀ x, x ≠ side → (s.lu.corner x).closureEnd = none) →
        t.lu.abort = false ∧ t.lu.kneel = .raising ∧ t.lu.sides = .none ∧
        t.lu.left.target = s.sc.prof.rideHeight ∧ t.lu.right.target = s.sc.prof.rideHeight ∧
        ((∀ x, (s.lu.corner x).phase ≠ .fault) → t.lu.level = .raising) ∧
        (s.lu.kneel.freezes = true → t.bu = s.bu))

/-- SKIRT_CONTACT during a kneel: every open exhaust closes into CLOSING, KNEEL_ABORTED is raised and the kneel latch is set;
with an exhaust or a closure under way the abort pends, with none it resolves to RAISING at once. Outside a kneel it changes
nothing. A level update that reads the contact active acts in the same way and takes no kneel transition, its kneel latch kept
unless it reads the request NONE (that the contact acts before the update's other steps is log entry 16's reading): while the
abort pends, no pulse opens; resolved, both corners have the ride height as target. That any closure in flight makes the abort pend, one of a corner that went to FAULT included, is the model's reading (log
entry 15). -/
def Obligations.SkirtContactActs : Prop :=
  (∀ (dt : Nat) (s : State), let u := s.elapse dt
    s.powered = true → s.runs = true → s.own.isAxle = true →
    ((s.lu.kneel = .kneeling ∨ s.lu.kneel = .knelt) → s.lu.abort = false →
      ∃ t, exec (.skirtContact dt) s = .next t ∧ t.lu.kneelLatch = true ∧
        t.li.summary = insertKind .kneelAborted s.li.summary ∧ t.bu = s.bu ∧
        (∀ x, (s.lu.corner x).phase = .exhausting →
          (t.lu.corner x).phase = .closing ∧ (t.lu.corner x).exhaustValve = false ∧
          (t.lu.corner x).closureEnd = some (u.now + 40000)) ∧
        (∀ x, (s.lu.corner x).phase ≠ .exhausting → (t.lu.corner x).phase = (s.lu.corner x).phase) ∧
        ((∃ x, (s.lu.corner x).phase = .exhausting ∨ (s.lu.corner x).closureEnd ≠ none) →
          t.lu.abort = true ∧ t.lu.kneel = s.lu.kneel) ∧
        ((∀ x, (s.lu.corner x).phase ≠ .exhausting ∧ (s.lu.corner x).closureEnd = none) →
          t.lu.abort = false ∧ t.lu.kneel = .raising ∧ t.lu.sides = .none)) ∧
    ((s.lu.kneel = .none ∨ s.lu.kneel = .raising ∨ s.lu.abort = true) → exec (.skirtContact dt) s = .next u)) ∧
  ∀ (dt : Nat) (a b : Int) (s : State), let u := s.elapse dt
    let waits := ∃ x, (s.lu.corner x).phase = .exhausting ∨ (s.lu.corner x).closureEnd ≠ none
    s.powered = true → u.levelDue = true → (s.lu.kneel = .kneeling ∨ s.lu.kneel = .knelt) → s.lu.abort = false →
    s.lu.restartFault = false → (s.channel 0).reading = some a → (s.channel 1).reading = some b →
    ∃ t, exec (.levelUpdate dt true) s = .next t ∧ .kneelAborted ∈ t.li.summary ∧ t.bu = s.bu ∧
      t.lu.kneelLatch = decide (u.effectiveDemand.kneel ≠ .none) ∧
      (∀ x, (s.lu.corner x).phase = .exhausting →
        (t.lu.corner x).phase = .closing ∧ (t.lu.corner x).exhaustValve = false ∧
        (t.lu.corner x).closureEnd = some (u.now + 40000)) ∧
      (waits → t.lu.abort = true ∧ t.lu.kneel = s.lu.kneel ∧ t.lu.sides = s.lu.sides ∧
        ∀ x, (t.lu.corner x).phase ≠ .exhausting ∧
          ((t.lu.corner x).phase = .filling → (s.lu.corner x).phase = .filling) ∧
          ((s.lu.corner x).phase = .steady → (t.lu.corner x).phase = .steady)) ∧
      (¬waits → t.lu.abort = false ∧ t.lu.kneel = .raising ∧ t.lu.sides = .none ∧
        t.lu.left.target = s.sc.prof.rideHeight ∧ t.lu.right.target = s.sc.prof.rideHeight)

/-! ### Doors (09) -/

/-- DOOR_EVENT of an owned door: appended with its local time, or dropped at a full queue with DOOR_EVENT_OVERRUN raised
(R169). In LISTENING a door update discards every entry, takes no door through a transition, raises nothing, and drives every
output at its reset value (R170); that the report of a FAULT door follows its lock switch there, unless the door is held for the clear event (R182), is log entry 21's reading, and that
the next update is measured from this one is log entry 22. -/
def Obligations.DoorEventsQueue : Prop :=
  (∀ (dt door : Nat) (kind : DoorEventKind) (s : State), let u := s.elapse dt
    s.powered = true → s.runs = true → s.own.isAxle = true → (∃ d ∈ s.du.doors, d.number = door) →
    (s.du.queue.length < 8 → exec (.doorEvent dt door kind) s = .next
      { u with du := { u.du with queue := u.du.queue ++ [⟨u.now, door, kind⟩] } }) ∧
    (8 ≤ s.du.queue.length → exec (.doorEvent dt door kind) s = .next
      { u with li := { u.li with summary := insertKind .doorEventOverrun u.li.summary } })) ∧
  ∀ (dt : Nat) (first second : DoorInputs) (s : State), let u := s.elapse dt
    s.powered = true → u.doorDue = true → s.sc.station = .listening →
    ∃ t, exec (.doorUpdate dt first second) s = .next t ∧ t.du.queue = [] ∧ t.li = s.li ∧
      t.sched.door = some (u.now + 20000) ∧ t.du.doors.length = s.du.doors.length ∧
      ∀ (k : Nat) (d : Door), k < 2 → s.du.doors[k]? = some d →
        let i := if k = 0 then first else second
        t.du.doors[k]? = some { d with
          lockActuator := false, drive := .off
          lockedFault := if d.state = .fault then i.lockSwitch && !d.heldFault else d.lockedFault }

/-- A LOCKED door at its periodic step: a lost bolt takes it to FAULT with DOOR_LOCK_FAULT raised, whatever else holds;
otherwise it goes to UNLOCKING with its actuator energised exactly when the source is FRESH, the request is HOLD, the release
list names it, and STANDSTILL and ALL_HELD_SINCE hold. Entries of the queue do not touch it (that the next update is measured
from this one is log entry 22). -/
def Obligations.DoorLockedStep : Prop :=
  ∀ (dt k : Nat) (first second : DoorInputs) (d : Door) (s : State), let u := s.elapse dt
    let i := if k = 0 then first else second
    let q := u.effectiveDemand
    let may := q.source = .fresh ∧ q.hold = .hold ∧ d.number ∈ q.release ∧ u.standstill = true ∧ u.allHeldSince = true
    s.powered = true → u.doorDue = true → s.drives = true → k < 2 → s.du.doors[k]? = some d → d.state = .locked →
    ∃ t, exec (.doorUpdate dt first second) s = .next t ∧ t.du.queue = [] ∧
      t.sched.door = some (u.now + 20000) ∧
      (i.lockSwitch = false → .doorLockFault ∈ t.li.summary ∧ t.du.doors[k]? = some { d with
        state := .fault, deadline := none, driveStop := none, openRequest := false, lockedFault := false,
        lockActuator := false, drive := .off }) ∧
      (i.lockSwitch = true → may → t.du.doors[k]? = some { d with
        state := .unlocking, deadline := some (u.now + 500000), lockActuator := true, drive := .off }) ∧
      (i.lockSwitch = true → ¬may → t.du.doors[k]? = some d)

/-- A door in UNLOCKING, OPENING or LOCKING at its periodic step, whatever the queue holds for it: its switch confirms and
completes the movement, an unlock whose release is withdrawn going to LOCKING; without it the deadline, once passed, takes it
to FAULT with its fault raised; before that it waits. With an empty queue, a RELEASED door locks, stays shut for a kneel or
opens; a CLOSING door is turned back by its edge, else goes to LOCKING; a REVERSING door opens, its latch set at the third
obstruction. An OPEN door, its dwell start moved to the later of its value and a BEAM entry's time (how the two are compared is log
entry 42) and to now by a beam level, closes when its latch is clear and its release is withdrawn or its dwell has run, and stays
OPEN otherwise, a set latch for any cause (R175); that a closing door has no dwell start left is log entry 20's
reading. The event steps before the periodic one (R170): a BUTTON entry opens a RELEASED door or waits as its open request (R173), an EDGE entry turns a CLOSING door back once (R176), and entries that the door's state
gives no use to change nothing. A FAULT door moves nowhere, its report following the lock switch (R179) but
for a door that a restart met OPEN, which is reported FAULT whatever its lock switch reads (R182; log entry 40). -/
def Obligations.DoorMovesComplete : Prop :=
  ∀ (dt k : Nat) (first second : DoorInputs) (d : Door) (s : State), let u := s.elapse dt
    let i := if k = 0 then first else second
    let named := d.number ∈ u.effectiveDemand.release
    s.powered = true → u.doorDue = true → s.drives = true → k < 2 → s.du.doors[k]? = some d →
    (d.state = .unlocking → ∃ t x, exec (.doorUpdate dt first second) s = .next t ∧ t.du.doors[k]? = some x ∧
      (i.unlockSwitch = true → named → x.state = .released ∧ x.lockActuator = true ∧ x.deadline = none) ∧
      (i.unlockSwitch = true → ¬named →
        x.state = .locking ∧ x.lockActuator = false ∧ x.deadline = some (u.now + 500000)) ∧
      (i.unlockSwitch = false → passed d.deadline u.now = true →
        x.state = .fault ∧ x.lockActuator = false ∧ .doorLockFault ∈ t.li.summary) ∧
      (i.unlockSwitch = false → passed d.deadline u.now = false → x = d)) ∧
    (d.state = .opening → ∃ t x, exec (.doorUpdate dt first second) s = .next t ∧ t.du.doors[k]? = some x ∧
      (i.openSwitch = true → x.state = .opened ∧ x.drive = .off ∧ x.dwellStart = some u.now) ∧
      (i.openSwitch = false → passed d.deadline u.now = true →
        x.state = .fault ∧ x.drive = .off ∧ .doorDriveFault ∈ t.li.summary) ∧
      (i.openSwitch = false → passed d.deadline u.now = false → x = d)) ∧
    (d.state = .locking → ∃ t x, exec (.doorUpdate dt first second) s = .next t ∧ t.du.doors[k]? = some x ∧
      (i.lockSwitch = true → x.state = .locked ∧ x.deadline = none ∧ x.count = 0) ∧
      (i.lockSwitch = false → passed d.deadline u.now = true →
        x.state = .fault ∧ .doorLockFault ∈ t.li.summary) ∧
      (i.lockSwitch = false → passed d.deadline u.now = false → x = d)) ∧
    (d.state = .released → s.du.queue = [] →
      let shut := s.lu.level = .kneeling ∧ u.effectiveDemand.kneel.names d.side = true
      ∃ t x, exec (.doorUpdate dt first second) s = .next t ∧ t.du.doors[k]? = some x ∧
      (¬named → x.state = .locking ∧ x.lockActuator = false ∧ x.openRequest = false) ∧
      (named → shut → x = d) ∧
      (named → ¬shut → (d.openRequest = true ∨ d.number ∈ u.effectiveDemand.opens) →
        x.state = .opening ∧ x.drive = .opening ∧ x.openRequest = false ∧ x.deadline = some (u.now + 4000000)) ∧
      (named → ¬shut → d.openRequest = false → d.number ∉ u.effectiveDemand.opens → x = d)) ∧
    (d.state = .closing → s.du.queue = [] →
      ∃ t x, exec (.doorUpdate dt first second) s = .next t ∧ t.du.doors[k]? = some x ∧
      (i.edge = true → x.state = .reversing ∧ x.drive = .off ∧ x.count = d.count + 1 ∧
        x.driveStop = some (u.now + 150000) ∧ x.deadline = some (u.now + 4150000) ∧
        .doorObstructed ∈ t.li.summary) ∧
      (i.edge = false → i.closedSwitch = true → x.state = .locking ∧ x.drive = .off ∧ x.lockActuator = false)) ∧
    (d.state = .reversing → s.du.queue = [] → i.openSwitch = true →
      ∃ t x, exec (.doorUpdate dt first second) s = .next t ∧ t.du.doors[k]? = some x ∧
        x.state = .opened ∧ x.drive = .off ∧ x.driveStop = none ∧ x.dwellStart = some u.now ∧
        (x.latch = true ↔ d.latch = true ∨ 3 ≤ d.count)) ∧
    (∀ start, d.state = .opened →
      (s.du.queue = [] ∧ start = d.dwellStart ∨ ∃ e, s.du.queue = [⟨e, d.number, .beam⟩] ∧
        start = (match d.dwellStart with
          | some was => if 0 < (e - was).toInt then some e else some was
          | none => some e)) →
      let begun := if i.beam then some u.now else start
      let closes := d.latch = false ∧ (¬named ∨ (d.number ∉ u.effectiveDemand.opens ∧
        u.effectiveDemand.source ≠ .fallback ∧ lasted begun (s.sc.prof.dwellMs * 1000) u.now = true))
      ∃ t x, exec (.doorUpdate dt first second) s = .next t ∧ t.du.doors[k]? = some x ∧
        (closes → x = { d with
          state := .closing, drive := .closing, lockActuator := true, dwellStart := none
          deadline := some (u.now + 4000000) }) ∧
        (¬closes → x = { d with dwellStart := begun })) ∧
    (d.state = .released → (∃ e ∈ s.du.queue, e.door = d.number ∧ e.kind = .button) →
      let shut := s.lu.level = .kneeling ∧ u.effectiveDemand.kneel.names d.side = true
      ∃ t x, exec (.doorUpdate dt first second) s = .next t ∧ t.du.doors[k]? = some x ∧
        (¬named → x.state = .locking ∧ x.openRequest = false) ∧
        (named → shut → x = { d with openRequest := true }) ∧
        (named → ¬shut → x.state = .opening ∧ x.drive = .opening ∧ x.openRequest = false)) ∧
    (d.state = .closing → (∃ e ∈ s.du.queue, e.door = d.number ∧ e.kind = .edge) →
      ∃ t x, exec (.doorUpdate dt first second) s = .next t ∧ t.du.doors[k]? = some x ∧ x.count = d.count + 1 ∧
        .doorObstructed ∈ t.li.summary ∧
        (i.openSwitch = false → x.state = .reversing ∧ x.drive = .off ∧ x.driveStop = some (u.now + 150000) ∧
          x.deadline = some (u.now + 4150000)) ∧
        (i.openSwitch = true → x.state = .opened ∧ x.drive = .off ∧ x.driveStop = none ∧ x.dwellStart = some u.now ∧
          (x.latch = true ↔ d.latch = true ∨ 3 ≤ d.count + 1))) ∧
    ((∀ e ∈ s.du.queue, e.door = d.number → ¬(d.state = .released ∧ e.kind = .button) ∧
        ¬(d.state = .opened ∧ e.kind = .beam) ∧ ¬(d.state = .closing ∧ e.kind = .edge)) →
      ∃ t y, exec (.doorUpdate dt first second) s = .next t ∧
        exec (.doorUpdate dt first second) { s with du := { s.du with queue := [] } } = .next y ∧
        t.du.doors[k]? = y.du.doors[k]?) ∧
    (d.state = .fault → ∃ t, exec (.doorUpdate dt first second) s = .next t ∧
      t.du.doors[k]? = some { d with lockedFault := i.lockSwitch && !d.heldFault })

/-- The three door times (DWELL_TIME_END and DOOR_DEADLINE_PASSED are due door updates, log entry 2): the drive-stop end
drives a REVERSING door open; a dwell that has run closes an OPEN door whose latch is clear, whose beam and queue are quiet,
which no open list names, under a source other than FALLBACK; a passed deadline takes a movement that does not confirm to
FAULT. -/
def Obligations.DoorTimes : Prop :=
  ∀ (dt k : Nat) (first second : DoorInputs) (d : Door) (s : State), let u := s.elapse dt
    let i := if k = 0 then first else second
    s.powered = true → s.drives = true → s.own.isAxle = true → k < 2 → s.du.doors[k]? = some d →
    (∀ e, d.state = .reversing → d.driveStop = some e → 0 ≤ (u.now - e).toInt →
      ∃ t, exec (.driveStopEnd dt d.number) s = .next t ∧
        t.du.doors[k]? = some { d with drive := .opening, driveStop := none }) ∧
    (u.doorDue = true → s.du.queue = [] → d.state = .opened → d.latch = false → i.beam = false →
      lasted d.dwellStart (s.sc.prof.dwellMs * 1000) u.now = true → d.number ∉ u.effectiveDemand.opens →
      u.effectiveDemand.source ≠ .fallback →
      ∃ t x, exec (.dwellTimeEnd dt d.number first second) s = .next t ∧ t.du.doors[k]? = some x ∧
        x.state = .closing ∧ x.drive = .closing ∧ x.deadline = some (u.now + 4000000)) ∧
    (u.doorDue = true → s.du.queue = [] → passed d.deadline u.now = true →
      (d.state = .unlocking ∧ i.unlockSwitch = false ∨ d.state = .opening ∧ i.openSwitch = false ∨
        d.state = .closing ∧ i.edge = false ∧ i.closedSwitch = false ∨
        d.state = .reversing ∧ i.openSwitch = false ∨ d.state = .locking ∧ i.lockSwitch = false) →
      ∃ t x, exec (.doorDeadlinePassed dt d.number first second) s = .next t ∧ t.du.doors[k]? = some x ∧
        x.state = .fault ∧ x.drive = .off ∧ x.lockActuator = false ∧ x.deadline = none ∧ x.driveStop = none ∧
        x.count = d.count ∧ x.latch = d.latch ∧ x.lockedFault = i.lockSwitch ∧
        ((d.state = .unlocking ∨ d.state = .locking) → .doorLockFault ∈ t.li.summary) ∧
        ((d.state = .opening ∨ d.state = .closing ∨ d.state = .reversing) → .doorDriveFault ∈ t.li.summary))

/-- The unlock rule of the whole machine: a door passes from LOCKED to UNLOCKING only at a door update in ACTIVE or ISOLATED,
under a FRESH DEMAND that requests hold and releases that door, with STANDSTILL and ALL_HELD_SINCE in the owner's view. -/
def Obligations.DoorUnlocksOnly : Prop :=
  ∀ (c : Instr) (s t : State) (k : Nat) (d e : Door), exec c s = .next t → s.du.doors[k]? = some d →
    t.du.doors[k]? = some e → d.state = .locked → e.state = .unlocking →
    let u := s.elapse (elapsedOf c)
    u.doorDue = true ∧ s.drives = true ∧ u.effectiveDemand.source = .fresh ∧ u.effectiveDemand.hold = .hold ∧
      d.number ∈ u.effectiveDemand.release ∧ u.standstill = true ∧ u.allHeldSince = true ∧ e.lockActuator = true

/-! ### Rules of the whole machine -/

/-- INERT is left only by power-on, or by a loss of supply (what an unpowered part holds is the model's choice, log entry 8).
-/
def Obligations.InertStays : Prop :=
  ∀ (c : Instr) (s t : State), exec c s = .next t → s.sc.station = .inert → isSupply c = false →
    t.sc.station = .inert

/-- No latch is cleared but by what its rule names: the STEER, HOLD and LEVEL latches by a clear event acted on (a DEMAND
accepted or, at the CAB, written, whose clear count differs from the acted-on one, R51) or power-on, and an obstruction latch by
either of these or by the profile load that lays the door table anew; the kneel latch by a level update that reads the request
NONE, or power-on. A door in FAULT that a restart met OPEN stays so, held for the clear event (R182), but for a reset or an entry
to INERT, which judges it anew (log entry 40). A loss of supply is set aside, since what an unpowered part holds is the model's choice (log entry 8). -/
def Obligations.LatchesPersist : Prop :=
  ∀ (c : Instr) (s t : State), exec c s = .next t → isSupply c = false →
    let acted := ((∃ dt l, c = .frameReceived dt l) ∨ ∃ dt i, c = .cabUpdate dt i) ∧
      ∃ a b, s.pv.actedClear = some a ∧ t.pv.actedClear = some b ∧ a ≠ b
    (¬acted →
      (s.su.latch = true → t.su.latch = true) ∧ (s.hu.latch = true → t.hu.latch = true) ∧
      (s.lu.levelLatch = true → t.lu.levelLatch = true) ∧
      ((∀ dt m l, c ≠ .profileLoadComplete dt m l) →
        ∀ (k : Nat) (d : Door), s.du.doors[k]? = some d → d.latch = true →
          ∃ e, t.du.doors[k]? = some e ∧ e.latch = true) ∧
      ((∀ dt m l, c ≠ .profileLoadComplete dt m l) → (∀ dt n l, c ≠ .restart dt n l) →
        (t.sc.station = .inert → s.sc.station = .inert) →
        ∀ (k : Nat) (d : Door), s.du.doors[k]? = some d → d.state = .fault → d.heldFault = true → d.lockedFault = false →
          ∃ e, t.du.doors[k]? = some e ∧ e.state = .fault ∧ e.heldFault = true ∧ e.lockedFault = false)) ∧
    (s.lu.kneelLatch = true → t.lu.kneelLatch = true ∨
      ((s.elapse (elapsedOf c)).levelDue = true ∧ (s.elapse (elapsedOf c)).effectiveDemand.kneel = .none))

/-- What the updates of the steering, joint, brake, hold, level and door units leave alone: everything but their own unit, the
event summary, their own next time, and what the spec lets them write beside it (the path queue trimmed, the load frozen, the
frozen release list pruned). -/
def Obligations.FramesOfUpdates : Prop :=
  ∀ (c : Instr) (s : State), let u := s.elapse (elapsedOf c)
    ((∃ dt, c = .steeringUpdate dt ∨ c = .lockReleaseTimeEnd dt ∨ c = .centringSettleEnd dt ∨ c = .trackingTimeEnd dt) →
      ∃ su queue summary next, exec c s = .next { u with
        su := su, pu := { u.pu with queue := queue }, li := { u.li with summary := summary },
        sched := { u.sched with steering := next } }) ∧
    ((∃ dt, c = .jointUpdate dt ∨ c = .riskClearTimeEnd dt ∨ c = .damperLowTimeEnd dt ∨ c = .damperGoodTimeEnd dt) →
      ∃ ju queue summary next, exec c s = .next { u with
        ju := ju, pu := { u.pu with queue := queue }, li := { u.li with summary := summary },
        sched := { u.sched with joint := next } }) ∧
    ((∃ dt, c = .brakeUpdate dt) →
      ∃ load rev demand left right summary next, exec c s = .next { u with
        bu := { u.bu with load := load, reverseStop := rev, demand := demand, left := left, right := right },
        li := { u.li with summary := summary }, sched := { u.sched with brake := next } }) ∧
    ((∃ dt, c = .holdUpdate dt ∨ c = .confirmTimeEnd dt ∨ c = .applyFaultTimeEnd dt ∨ c = .releaseTimeEnd dt) →
      ∃ hu summary next, exec c s = .next { u with
        hu := hu, li := { u.li with summary := summary }, sched := { u.sched with hold := next } }) ∧
    ((∃ dt x b, c = .levelUpdate dt b ∨ c = .pulseLimitEnd dt x b ∨ c = .settleTimeEnd dt x b ∨ c = .skirtContact dt ∨
        c = .closureComplete dt x) →
      ∃ lu frozen summary next, exec c s = .next { u with
        lu := lu, bu := { u.bu with frozen := frozen }, li := { u.li with summary := summary },
        sched := { u.sched with level := next } }) ∧
    ((∃ dt n a b, c = .doorUpdate dt a b ∨ c = .dwellTimeEnd dt n a b ∨ c = .doorDeadlinePassed dt n a b ∨
        c = .driveStopEnd dt n) →
      ∃ doors queue frozen summary next, exec c s = .next { u with
        du := { u.du with doors := doors, queue := queue }, pv := { u.pv with frozen := frozen },
        li := { u.li with summary := summary }, sched := { u.sched with door := next } })

/-! ### Frames written and read agree (R24, R26, R27) -/

/-- A STATUS frame written from a record in the ranges of R26 by a listed station of the record's role is accepted by every
other station that holds the same profile, and read back as the same record. -/
def Obligations.StatusFramesRoundTrip : Prop :=
  ∀ (p : Profile) (own n : Fin 8) (r : StatusRec), n ≠ own → r.Sendable (p.station n) →
    judge p own (frameChars .status n r.body) = .accepted n (.status r)

/-- PATH, DEMAND and NOTICE frames written by a station that may send them are accepted by every other station that holds the
same profile, and read back as the same contents. -/
def Obligations.OtherFramesRoundTrip : Prop :=
  ∀ (p : Profile) (own n : Fin 8), n ≠ own → (p.station n).isPresent = true →
    (∀ x : PathPoint, (p.station n).isLeading = true →
      judge p own (frameChars .path n x.body) = .accepted n (.path x)) ∧
    (∀ r : DemandRec, n = 0 → r.Sendable →
      judge p own (frameChars .demand n r.body) = .accepted n (.demand r)) ∧
    (∀ l : List EventKind, l ≠ [] → l.Nodup →
      judge p own (frameChars .notice n (noticeBody l)) = .accepted n (.notice l))

/-! ### Invariants -/

/-- The four invariants hold at the state after reset. -/
def Obligations.InvariantsAtReset : Prop :=
  State.reset.OutputsFollow ∧ State.reset.Bounded ∧ State.reset.KneelHolds ∧ State.reset.RestsWhenStopped

/-- Every step keeps the outputs following the states of their units. -/
def Obligations.OutputsFollowKept : Prop :=
  ∀ s t : State, s.OutputsFollow → step s = .next t → t.OutputsFollow

/-- Every step keeps the ranges that `State.Bounded` lists: the queues and histories, the summary's order, the channel
records and the trial of a conversion, the profile's limits, the wheel speeds, the commands and set-points of steering, damping
and braking, and the hold-good, progress and obstruction counts. That the trial stands at 512 until the conversion completes is the
model's choice (log entry 25), and so is the increasing code in which the summary, a set, is held (log entry 34); a door held for
the clear event stands in FAULT and is reported so (R182; log entry 40); the obstruction count's clause rests on the model's reading that every entry to LOCKED clears the count (log entry 20). -/
def Obligations.BoundsKept : Prop :=
  ∀ s t : State, s.Bounded → step s = .next t → t.Bounded

/-- Every step keeps the load frozen exactly while the kneel phase is not NONE, and an abort pending only in KNEELING or
KNELT. -/
def Obligations.KneelInvariantKept : Prop :=
  ∀ s t : State, s.KneelHolds → step s = .next t → t.KneelHolds

/-- Every step keeps every output at its reset value while no unit runs: in POWERUP, PROFILE_LOAD and INERT. -/
def Obligations.OutputsRestKept : Prop :=
  ∀ s t : State, s.RestsWhenStopped → step s = .next t → t.RestsWhenStopped
end

