-- ==== Sys2Proof/Laws/State.lean ====
section
/-! SUPPORT. Lemmas about `State`: how a command is taken, and what the shared updates do to each field. -/

namespace Sys2Proof.Machine

/-! ### Taking a command -/

/-- A command either changes local time alone, or finds the part powered and its condition met and has its effect. -/
theorem runWhen_cases {ready : State → Bool} {effect : State → State} {dt : Nat} {s t : State}
    (h : runWhen ready effect dt s = .next t) :
    t = s.elapse dt ∨
      ((s.elapse dt).powered = true ∧ ready (s.elapse dt) = true ∧ t = effect (s.elapse dt)) := by
  unfold runWhen at h
  split at h
  · rename_i c
    simp only [Bool.and_eq_true] at c
    exact .inr ⟨c.1, c.2, by injection h with h; exact h.symm⟩
  · exact .inl (by injection h with h; exact h.symm)

/-- A command whose condition is met has its effect. -/
theorem runWhen_ready {ready : State → Bool} {effect : State → State} {dt : Nat} {s : State}
    (hp : s.powered = true) (hr : ready (s.elapse dt) = true) :
    runWhen ready effect dt s = .next (effect (s.elapse dt)) := by
  simp [runWhen, State.elapse, hp] at *
  simp [hr]

/-- A command whose condition is not met changes local time alone. -/
theorem runWhen_idle {ready : State → Bool} {effect : State → State} {dt : Nat} {s : State}
    (hr : ready (s.elapse dt) = false) : runWhen ready effect dt s = .next (s.elapse dt) := by
  simp [runWhen, hr]

/-- Time counts at a powered part (R1). -/
@[simp] theorem State.elapse_now {s : State} (dt : Nat) (h : s.powered = true) :
    (s.elapse dt).now = later s.now dt := by simp [State.elapse, h]

/-! ### Raising and requesting -/

@[simp] theorem State.raise_summary (k : EventKind) (s : State) :
    (s.raise k).li.summary = insertKind k s.li.summary := rfl
@[simp] theorem State.request_pending (k : FrameKind) (s : State) :
    (s.request k).li.pending = s.li.pending.set true k := rfl
@[simp] theorem State.raiseIf_true (k : EventKind) (s : State) : s.raiseIf true k = s.raise k := rfl
@[simp] theorem State.raiseIf_false (k : EventKind) (s : State) : s.raiseIf false k = s := rfl
/-- Raising changes the summary alone. -/
@[simp] theorem State.raise_li (k : EventKind) (s : State) :
    (s.raise k).li.lineActive = s.li.lineActive ∧ (s.raise k).li.mode = s.li.mode ∧ (s.raise k).li.frame = s.li.frame ∧
    (s.raise k).li.lastChar = s.li.lastChar ∧ (s.raise k).li.complete = s.li.complete ∧
    (s.raise k).li.quiet = s.li.quiet ∧ (s.raise k).li.pending = s.li.pending ∧
    (s.raise k).li.sending = s.li.sending ∧ (s.raise k).li.statusSeq = s.li.statusSeq ∧
    (s.raise k).li.demandSeq = s.li.demandSeq := by
  simp [State.raise]
/-- Raising on a condition changes the summary alone. -/
@[simp] theorem State.raiseIf_li (b : Bool) (k : EventKind) (s : State) :
    (s.raiseIf b k).li.lineActive = s.li.lineActive ∧ (s.raiseIf b k).li.mode = s.li.mode ∧ (s.raiseIf b k).li.frame = s.li.frame ∧
    (s.raiseIf b k).li.lastChar = s.li.lastChar ∧ (s.raiseIf b k).li.complete = s.li.complete ∧
    (s.raiseIf b k).li.quiet = s.li.quiet ∧ (s.raiseIf b k).li.pending = s.li.pending ∧
    (s.raiseIf b k).li.sending = s.li.sending ∧ (s.raiseIf b k).li.statusSeq = s.li.statusSeq ∧
    (s.raiseIf b k).li.demandSeq = s.li.demandSeq := by
  cases b <;> simp
/-- Requesting changes the transmit set alone. -/
@[simp] theorem State.request_li (k : FrameKind) (s : State) :
    (s.request k).li.lineActive = s.li.lineActive ∧ (s.request k).li.mode = s.li.mode ∧ (s.request k).li.frame = s.li.frame ∧
    (s.request k).li.lastChar = s.li.lastChar ∧ (s.request k).li.complete = s.li.complete ∧
    (s.request k).li.quiet = s.li.quiet ∧ (s.request k).li.sending = s.li.sending ∧
    (s.request k).li.statusSeq = s.li.statusSeq ∧ (s.request k).li.demandSeq = s.li.demandSeq ∧
    (s.request k).li.summary = s.li.summary := by
  simp [State.request]

/-- A kind is in a summary into which it has been put, and every other kind stays as it was (R36). -/
theorem mem_insertKind (k x : EventKind) (l : List EventKind) : x ∈ insertKind k l ↔ x = k ∨ x ∈ l := by
  induction l with
  | nil => simp [insertKind]
  | cons a l ih =>
    unfold insertKind
    split
    · simp
    · split
      · rename_i h
        subst h
        simp
      · simp only [List.mem_cons, ih]
        tauto

/-! ### The door outputs of a reset, the level unit's freeze -/

@[simp] theorem State.setLevel_lu (l : LevelUnit) (s : State) : (s.setLevel l).lu = l := rfl
@[simp] theorem State.pruneFrozen_frozen (s : State) :
    s.pruneFrozen.pv.frozen = s.pv.frozen.filter fun d => !s.ownsLocked d := rfl
@[simp] theorem State.trimQueue_queue (d : Option Dist) (s : State) :
    (s.trimQueue d).pu.queue = trim d s.pu.queue := rfl
@[simp] theorem LineInterface.restart_lineActive (l : LineInterface) : l.restart.lineActive = l.lineActive := rfl
@[simp] theorem LineInterface.restart_pending (l : LineInterface) : l.restart.pending = TransmitSet.empty := rfl
@[simp] theorem LineInterface.restart_sending (l : LineInterface) : l.restart.sending = none := rfl
@[simp] theorem LineInterface.restart_summary (l : LineInterface) : l.restart.summary = [] := rfl
@[simp] theorem LineInterface.restart_mode (l : LineInterface) : l.restart.mode = .off := rfl
@[simp] theorem State.lineHeld_quiet (s : State) : s.lineHeld.li.quiet = none := rfl
@[simp] theorem State.lineHeld_lineActive (s : State) : s.lineHeld.li.lineActive = true := rfl
@[simp] theorem State.startIdleWait_lineActive (s : State) : s.startIdleWait.li.lineActive = s.li.lineActive := rfl
@[simp] theorem State.startIdleWait_mode (s : State) : s.startIdleWait.li.mode = .waiting s.now := rfl

/-! ### The converter's trial (R15) -/

/-- Settling the bits from `n` down finds an input that lies within the reach of the trial. -/
theorem settleBits_eq (input : Nat) : ∀ n trial, 2 ^ n ≤ trial → trial - 2 ^ n ≤ input → input < trial + 2 ^ n →
    settleBits input n trial = input
  | 0, trial, h, l, r => by
    simp only [settleBits]
    split <;> omega
  | n + 1, trial, h, l, r => by
    have p : 2 ^ (n + 1) = 2 ^ n + 2 ^ n := by omega
    simp only [settleBits]
    apply settleBits_eq <;> split <;> omega

/-- A conversion that began at mid-scale gives the code of its input (R15). -/
theorem Conversion.code_select (i : Fin 8) (input : BitVec 10) : (Conversion.select i).code input = input := by
  have h : settleBits input.toNat 9 512 = input.toNat := settleBits_eq _ 9 512 (by decide) (by simp) (by simpa using input.isLt)
  show BitVec.ofNat 10 (settleBits input.toNat 9 512) = input
  rw [h, BitVec.ofNat_toNat, BitVec.setWidth_eq]

end Sys2Proof.Machine
end

