-- ==== Sys2Proof/Laws/Frames.lean ====
section
/-! SUPPORT. What each operation leaves alone: one lemma for each operation, whose parts rewrite a field of the result to the
field of the state it was given. -/

namespace Sys2Proof.Machine

/-- `State.elapse` changes `now` alone. -/
@[simp] theorem State.elapse_frame (dt : Nat) (s : State) :
    (s.elapse dt).powered = s.powered ∧ (s.elapse dt).sc = s.sc ∧ (s.elapse dt).sched = s.sched ∧
    (s.elapse dt).pc = s.pc ∧ (s.elapse dt).cs = s.cs ∧ (s.elapse dt).li = s.li ∧ (s.elapse dt).pv = s.pv ∧
    (s.elapse dt).pu = s.pu ∧ (s.elapse dt).su = s.su ∧ (s.elapse dt).ju = s.ju ∧ (s.elapse dt).bu = s.bu ∧
    (s.elapse dt).hu = s.hu ∧ (s.elapse dt).lu = s.lu ∧ (s.elapse dt).du = s.du ∧ (s.elapse dt).cu = s.cu ∧
    (s.elapse dt).draws = s.draws ∧ (s.elapse dt).pending = s.pending := by
  unfold State.elapse; (repeat' split) <;> simp

/-- `State.raise` changes `li` alone. -/
@[simp] theorem State.raise_frame (k : EventKind) (s : State) :
    (s.raise k).powered = s.powered ∧ (s.raise k).now = s.now ∧ (s.raise k).sc = s.sc ∧
    (s.raise k).sched = s.sched ∧ (s.raise k).pc = s.pc ∧ (s.raise k).cs = s.cs ∧ (s.raise k).pv = s.pv ∧
    (s.raise k).pu = s.pu ∧ (s.raise k).su = s.su ∧ (s.raise k).ju = s.ju ∧ (s.raise k).bu = s.bu ∧
    (s.raise k).hu = s.hu ∧ (s.raise k).lu = s.lu ∧ (s.raise k).du = s.du ∧ (s.raise k).cu = s.cu ∧
    (s.raise k).draws = s.draws ∧ (s.raise k).pending = s.pending := by
  unfold State.raise; simp

/-- `State.raiseIf` changes `li` alone. -/
@[simp] theorem State.raiseIf_frame (b : Bool) (k : EventKind) (s : State) :
    (s.raiseIf b k).powered = s.powered ∧ (s.raiseIf b k).now = s.now ∧ (s.raiseIf b k).sc = s.sc ∧
    (s.raiseIf b k).sched = s.sched ∧ (s.raiseIf b k).pc = s.pc ∧ (s.raiseIf b k).cs = s.cs ∧
    (s.raiseIf b k).pv = s.pv ∧ (s.raiseIf b k).pu = s.pu ∧ (s.raiseIf b k).su = s.su ∧
    (s.raiseIf b k).ju = s.ju ∧ (s.raiseIf b k).bu = s.bu ∧ (s.raiseIf b k).hu = s.hu ∧
    (s.raiseIf b k).lu = s.lu ∧ (s.raiseIf b k).du = s.du ∧ (s.raiseIf b k).cu = s.cu ∧
    (s.raiseIf b k).draws = s.draws ∧ (s.raiseIf b k).pending = s.pending := by
  unfold State.raiseIf; (repeat' split) <;> simp

/-- `State.request` changes `li` alone. -/
@[simp] theorem State.request_frame (k : FrameKind) (s : State) :
    (s.request k).powered = s.powered ∧ (s.request k).now = s.now ∧ (s.request k).sc = s.sc ∧
    (s.request k).sched = s.sched ∧ (s.request k).pc = s.pc ∧ (s.request k).cs = s.cs ∧
    (s.request k).pv = s.pv ∧ (s.request k).pu = s.pu ∧ (s.request k).su = s.su ∧ (s.request k).ju = s.ju ∧
    (s.request k).bu = s.bu ∧ (s.request k).hu = s.hu ∧ (s.request k).lu = s.lu ∧ (s.request k).du = s.du ∧
    (s.request k).cu = s.cu ∧ (s.request k).draws = s.draws ∧ (s.request k).pending = s.pending := by
  unfold State.request; simp

/-- `State.requestFinalNotice` changes `li` alone. -/
@[simp] theorem State.requestFinalNotice_frame (s : State) :
    s.requestFinalNotice.powered = s.powered ∧ s.requestFinalNotice.now = s.now ∧
    s.requestFinalNotice.sc = s.sc ∧ s.requestFinalNotice.sched = s.sched ∧ s.requestFinalNotice.pc = s.pc ∧
    s.requestFinalNotice.cs = s.cs ∧ s.requestFinalNotice.pv = s.pv ∧ s.requestFinalNotice.pu = s.pu ∧
    s.requestFinalNotice.su = s.su ∧ s.requestFinalNotice.ju = s.ju ∧ s.requestFinalNotice.bu = s.bu ∧
    s.requestFinalNotice.hu = s.hu ∧ s.requestFinalNotice.lu = s.lu ∧ s.requestFinalNotice.du = s.du ∧
    s.requestFinalNotice.cu = s.cu ∧ s.requestFinalNotice.draws = s.draws ∧
    s.requestFinalNotice.pending = s.pending := by
  unfold State.requestFinalNotice; (repeat' split) <;> simp

/-- `State.startIdleWait` changes `li` alone. -/
@[simp] theorem State.startIdleWait_frame (s : State) :
    s.startIdleWait.powered = s.powered ∧ s.startIdleWait.now = s.now ∧ s.startIdleWait.sc = s.sc ∧
    s.startIdleWait.sched = s.sched ∧ s.startIdleWait.pc = s.pc ∧ s.startIdleWait.cs = s.cs ∧
    s.startIdleWait.pv = s.pv ∧ s.startIdleWait.pu = s.pu ∧ s.startIdleWait.su = s.su ∧
    s.startIdleWait.ju = s.ju ∧ s.startIdleWait.bu = s.bu ∧ s.startIdleWait.hu = s.hu ∧
    s.startIdleWait.lu = s.lu ∧ s.startIdleWait.du = s.du ∧ s.startIdleWait.cu = s.cu ∧
    s.startIdleWait.draws = s.draws ∧ s.startIdleWait.pending = s.pending := by
  unfold State.startIdleWait; simp

/-- `State.pruneFrozen` changes `pv` alone. -/
@[simp] theorem State.pruneFrozen_frame (s : State) :
    s.pruneFrozen.powered = s.powered ∧ s.pruneFrozen.now = s.now ∧ s.pruneFrozen.sc = s.sc ∧
    s.pruneFrozen.sched = s.sched ∧ s.pruneFrozen.pc = s.pc ∧ s.pruneFrozen.cs = s.cs ∧
    s.pruneFrozen.li = s.li ∧ s.pruneFrozen.pu = s.pu ∧ s.pruneFrozen.su = s.su ∧ s.pruneFrozen.ju = s.ju ∧
    s.pruneFrozen.bu = s.bu ∧ s.pruneFrozen.hu = s.hu ∧ s.pruneFrozen.lu = s.lu ∧ s.pruneFrozen.du = s.du ∧
    s.pruneFrozen.cu = s.cu ∧ s.pruneFrozen.draws = s.draws ∧ s.pruneFrozen.pending = s.pending := by
  unfold State.pruneFrozen; simp

/-- `State.setLevel` changes `lu`, `bu` alone. -/
@[simp] theorem State.setLevel_frame (l : LevelUnit) (s : State) :
    (s.setLevel l).powered = s.powered ∧ (s.setLevel l).now = s.now ∧ (s.setLevel l).sc = s.sc ∧
    (s.setLevel l).sched = s.sched ∧ (s.setLevel l).pc = s.pc ∧ (s.setLevel l).cs = s.cs ∧
    (s.setLevel l).li = s.li ∧ (s.setLevel l).pv = s.pv ∧ (s.setLevel l).pu = s.pu ∧ (s.setLevel l).su = s.su ∧
    (s.setLevel l).ju = s.ju ∧ (s.setLevel l).hu = s.hu ∧ (s.setLevel l).du = s.du ∧ (s.setLevel l).cu = s.cu ∧
    (s.setLevel l).draws = s.draws ∧ (s.setLevel l).pending = s.pending := by
  unfold State.setLevel; (repeat' split) <;> simp

/-- `restartValues` changes `sc`, `sched`, `pc`, `cs`, `li`, `pv`, `pu`, `su`, `ju`, `bu`, `hu`, `lu`, `du`, `cu` alone. -/
@[simp] theorem restartValues_frame (k : LockLevels) (s : State) :
    (restartValues k s).powered = s.powered ∧ (restartValues k s).now = s.now ∧
    (restartValues k s).draws = s.draws ∧ (restartValues k s).pending = s.pending := by
  unfold restartValues; simp

/-- `restartInert` changes `sc`, `sched`, `li`, `pv`, `cu` alone. -/
@[simp] theorem restartInert_frame (s : State) :
    (restartInert s).powered = s.powered ∧ (restartInert s).now = s.now ∧ (restartInert s).pc = s.pc ∧
    (restartInert s).cs = s.cs ∧ (restartInert s).pu = s.pu ∧ (restartInert s).su = s.su ∧
    (restartInert s).ju = s.ju ∧ (restartInert s).bu = s.bu ∧ (restartInert s).hu = s.hu ∧
    (restartInert s).lu = s.lu ∧ (restartInert s).du = s.du ∧ (restartInert s).draws = s.draws ∧
    (restartInert s).pending = s.pending := by
  unfold restartInert; simp

/-- `inertUnits` changes `pc`, `cs`, `pu`, `su`, `ju`, `bu`, `hu`, `lu`, `du`, `cu` alone. -/
@[simp] theorem inertUnits_frame (k : LockLevels) (s : State) :
    (inertUnits k s).powered = s.powered ∧ (inertUnits k s).now = s.now ∧ (inertUnits k s).sc = s.sc ∧
    (inertUnits k s).sched = s.sched ∧ (inertUnits k s).li = s.li ∧ (inertUnits k s).pv = s.pv ∧
    (inertUnits k s).draws = s.draws ∧ (inertUnits k s).pending = s.pending := by
  unfold inertUnits; simp

/-- `enterInert` changes `sc`, `sched`, `pc`, `cs`, `li`, `pu`, `su`, `ju`, `bu`, `hu`, `lu`, `du`, `cu` alone. -/
@[simp] theorem enterInert_frame (k : LockLevels) (s : State) :
    (enterInert k s).powered = s.powered ∧ (enterInert k s).now = s.now ∧ (enterInert k s).pv = s.pv ∧
    (enterInert k s).draws = s.draws ∧ (enterInert k s).pending = s.pending := by
  unfold enterInert; simp

/-- `enterListening` changes `sc`, `sched`, `cs`, `li`, `pv`, `su`, `hu` alone. -/
@[simp] theorem enterListening_frame (s : State) :
    (enterListening s).powered = s.powered ∧ (enterListening s).now = s.now ∧ (enterListening s).pc = s.pc ∧
    (enterListening s).pu = s.pu ∧ (enterListening s).ju = s.ju ∧ (enterListening s).bu = s.bu ∧
    (enterListening s).lu = s.lu ∧ (enterListening s).du = s.du ∧ (enterListening s).cu = s.cu ∧
    (enterListening s).draws = s.draws ∧ (enterListening s).pending = s.pending := by
  unfold enterListening; simp

/-- `clearEvent` changes `su`, `hu`, `lu`, `du`, `pv` alone. -/
@[simp] theorem clearEvent_frame (k : LockLevels) (s : State) :
    (clearEvent k s).powered = s.powered ∧ (clearEvent k s).now = s.now ∧ (clearEvent k s).sc = s.sc ∧
    (clearEvent k s).sched = s.sched ∧ (clearEvent k s).pc = s.pc ∧ (clearEvent k s).cs = s.cs ∧
    (clearEvent k s).li = s.li ∧ (clearEvent k s).pu = s.pu ∧ (clearEvent k s).ju = s.ju ∧
    (clearEvent k s).bu = s.bu ∧ (clearEvent k s).cu = s.cu ∧ (clearEvent k s).draws = s.draws ∧
    (clearEvent k s).pending = s.pending := by
  unfold clearEvent; simp

/-- `clearCountRule` changes `su`, `hu`, `lu`, `du`, `pv` alone. -/
@[simp] theorem clearCountRule_frame (k : LockLevels) (n : BitVec 8) (s : State) :
    (clearCountRule k n s).powered = s.powered ∧ (clearCountRule k n s).now = s.now ∧
    (clearCountRule k n s).sc = s.sc ∧ (clearCountRule k n s).sched = s.sched ∧
    (clearCountRule k n s).pc = s.pc ∧ (clearCountRule k n s).cs = s.cs ∧ (clearCountRule k n s).li = s.li ∧
    (clearCountRule k n s).pu = s.pu ∧ (clearCountRule k n s).ju = s.ju ∧ (clearCountRule k n s).bu = s.bu ∧
    (clearCountRule k n s).cu = s.cu ∧ (clearCountRule k n s).draws = s.draws ∧
    (clearCountRule k n s).pending = s.pending := by
  unfold clearCountRule; (repeat' split) <;> simp

/-- `yawCompletion` changes `pu` alone. -/
@[simp] theorem yawCompletion_frame (c : Channel) (s : State) :
    (yawCompletion c s).powered = s.powered ∧ (yawCompletion c s).now = s.now ∧ (yawCompletion c s).sc = s.sc ∧
    (yawCompletion c s).sched = s.sched ∧ (yawCompletion c s).pc = s.pc ∧ (yawCompletion c s).cs = s.cs ∧
    (yawCompletion c s).li = s.li ∧ (yawCompletion c s).pv = s.pv ∧ (yawCompletion c s).su = s.su ∧
    (yawCompletion c s).ju = s.ju ∧ (yawCompletion c s).bu = s.bu ∧ (yawCompletion c s).hu = s.hu ∧
    (yawCompletion c s).lu = s.lu ∧ (yawCompletion c s).du = s.du ∧ (yawCompletion c s).cu = s.cu ∧
    (yawCompletion c s).draws = s.draws ∧ (yawCompletion c s).pending = s.pending := by
  unfold yawCompletion; (repeat' split) <;> simp

/-- `layPoint` changes `pu`, `su`, `li` alone. -/
@[simp] theorem layPoint_frame (d : Int) (s : State) :
    (layPoint d s).powered = s.powered ∧ (layPoint d s).now = s.now ∧ (layPoint d s).sc = s.sc ∧
    (layPoint d s).sched = s.sched ∧ (layPoint d s).pc = s.pc ∧ (layPoint d s).cs = s.cs ∧
    (layPoint d s).pv = s.pv ∧ (layPoint d s).ju = s.ju ∧ (layPoint d s).bu = s.bu ∧ (layPoint d s).hu = s.hu ∧
    (layPoint d s).lu = s.lu ∧ (layPoint d s).du = s.du ∧ (layPoint d s).cu = s.cu ∧
    (layPoint d s).draws = s.draws ∧ (layPoint d s).pending = s.pending := by
  unfold layPoint; simp

/-- `pathOdometerChanged` changes `pu`, `su`, `li` alone. -/
@[simp] theorem pathOdometerChanged_frame (s : State) :
    (pathOdometerChanged s).powered = s.powered ∧ (pathOdometerChanged s).now = s.now ∧
    (pathOdometerChanged s).sc = s.sc ∧ (pathOdometerChanged s).sched = s.sched ∧
    (pathOdometerChanged s).pc = s.pc ∧ (pathOdometerChanged s).cs = s.cs ∧ (pathOdometerChanged s).pv = s.pv ∧
    (pathOdometerChanged s).ju = s.ju ∧ (pathOdometerChanged s).bu = s.bu ∧ (pathOdometerChanged s).hu = s.hu ∧
    (pathOdometerChanged s).lu = s.lu ∧ (pathOdometerChanged s).du = s.du ∧ (pathOdometerChanged s).cu = s.cu ∧
    (pathOdometerChanged s).draws = s.draws ∧ (pathOdometerChanged s).pending = s.pending := by
  unfold pathOdometerChanged; (repeat' split) <;> simp

/-- `pathRestart` changes `pu` alone. -/
@[simp] theorem pathRestart_frame (s : State) :
    (pathRestart s).powered = s.powered ∧ (pathRestart s).now = s.now ∧ (pathRestart s).sc = s.sc ∧
    (pathRestart s).sched = s.sched ∧ (pathRestart s).pc = s.pc ∧ (pathRestart s).cs = s.cs ∧
    (pathRestart s).li = s.li ∧ (pathRestart s).pv = s.pv ∧ (pathRestart s).su = s.su ∧
    (pathRestart s).ju = s.ju ∧ (pathRestart s).bu = s.bu ∧ (pathRestart s).hu = s.hu ∧
    (pathRestart s).lu = s.lu ∧ (pathRestart s).du = s.du ∧ (pathRestart s).cu = s.cu ∧
    (pathRestart s).draws = s.draws ∧ (pathRestart s).pending = s.pending := by
  unfold pathRestart; (repeat' split) <;> simp

/-- `pathReverse` changes `pu` alone. -/
@[simp] theorem pathReverse_frame (s : State) :
    (pathReverse s).powered = s.powered ∧ (pathReverse s).now = s.now ∧ (pathReverse s).sc = s.sc ∧
    (pathReverse s).sched = s.sched ∧ (pathReverse s).pc = s.pc ∧ (pathReverse s).cs = s.cs ∧
    (pathReverse s).li = s.li ∧ (pathReverse s).pv = s.pv ∧ (pathReverse s).su = s.su ∧
    (pathReverse s).ju = s.ju ∧ (pathReverse s).bu = s.bu ∧ (pathReverse s).hu = s.hu ∧
    (pathReverse s).lu = s.lu ∧ (pathReverse s).du = s.du ∧ (pathReverse s).cu = s.cu ∧
    (pathReverse s).draws = s.draws ∧ (pathReverse s).pending = s.pending := by
  unfold pathReverse; (repeat' split) <;> simp

/-- `pathEnterDriving` changes `pu` alone. -/
@[simp] theorem pathEnterDriving_frame (s : State) :
    (pathEnterDriving s).powered = s.powered ∧ (pathEnterDriving s).now = s.now ∧
    (pathEnterDriving s).sc = s.sc ∧ (pathEnterDriving s).sched = s.sched ∧ (pathEnterDriving s).pc = s.pc ∧
    (pathEnterDriving s).cs = s.cs ∧ (pathEnterDriving s).li = s.li ∧ (pathEnterDriving s).pv = s.pv ∧
    (pathEnterDriving s).su = s.su ∧ (pathEnterDriving s).ju = s.ju ∧ (pathEnterDriving s).bu = s.bu ∧
    (pathEnterDriving s).hu = s.hu ∧ (pathEnterDriving s).lu = s.lu ∧ (pathEnterDriving s).du = s.du ∧
    (pathEnterDriving s).cu = s.cu ∧ (pathEnterDriving s).draws = s.draws ∧
    (pathEnterDriving s).pending = s.pending := by
  unfold pathEnterDriving; (repeat' split) <;> simp

/-- `lagRearm` changes `pu` alone. -/
@[simp] theorem lagRearm_frame (s : State) :
    (lagRearm s).powered = s.powered ∧ (lagRearm s).now = s.now ∧ (lagRearm s).sc = s.sc ∧
    (lagRearm s).sched = s.sched ∧ (lagRearm s).pc = s.pc ∧ (lagRearm s).cs = s.cs ∧ (lagRearm s).li = s.li ∧
    (lagRearm s).pv = s.pv ∧ (lagRearm s).su = s.su ∧ (lagRearm s).ju = s.ju ∧ (lagRearm s).bu = s.bu ∧
    (lagRearm s).hu = s.hu ∧ (lagRearm s).lu = s.lu ∧ (lagRearm s).du = s.du ∧ (lagRearm s).cu = s.cu ∧
    (lagRearm s).draws = s.draws ∧ (lagRearm s).pending = s.pending := by
  unfold lagRearm; (repeat' split) <;> simp

/-- `takeOnly` changes `pu` alone. -/
@[simp] theorem takeOnly_frame (p : PathPoint) (s : State) :
    (takeOnly p s).powered = s.powered ∧ (takeOnly p s).now = s.now ∧ (takeOnly p s).sc = s.sc ∧
    (takeOnly p s).sched = s.sched ∧ (takeOnly p s).pc = s.pc ∧ (takeOnly p s).cs = s.cs ∧
    (takeOnly p s).li = s.li ∧ (takeOnly p s).pv = s.pv ∧ (takeOnly p s).su = s.su ∧ (takeOnly p s).ju = s.ju ∧
    (takeOnly p s).bu = s.bu ∧ (takeOnly p s).hu = s.hu ∧ (takeOnly p s).lu = s.lu ∧ (takeOnly p s).du = s.du ∧
    (takeOnly p s).cu = s.cu ∧ (takeOnly p s).draws = s.draws ∧ (takeOnly p s).pending = s.pending := by
  unfold takeOnly; simp

/-- `takeNewest` changes `pu`, `li` alone. -/
@[simp] theorem takeNewest_frame (m : Bool) (p : PathPoint) (s : State) :
    (takeNewest m p s).powered = s.powered ∧ (takeNewest m p s).now = s.now ∧ (takeNewest m p s).sc = s.sc ∧
    (takeNewest m p s).sched = s.sched ∧ (takeNewest m p s).pc = s.pc ∧ (takeNewest m p s).cs = s.cs ∧
    (takeNewest m p s).pv = s.pv ∧ (takeNewest m p s).su = s.su ∧ (takeNewest m p s).ju = s.ju ∧
    (takeNewest m p s).bu = s.bu ∧ (takeNewest m p s).hu = s.hu ∧ (takeNewest m p s).lu = s.lu ∧
    (takeNewest m p s).du = s.du ∧ (takeNewest m p s).cu = s.cu ∧ (takeNewest m p s).draws = s.draws ∧
    (takeNewest m p s).pending = s.pending := by
  unfold takeNewest; simp

/-- `pathIntake` changes `pu`, `li` alone. -/
@[simp] theorem pathIntake_frame (p : PathPoint) (s : State) :
    (pathIntake p s).powered = s.powered ∧ (pathIntake p s).now = s.now ∧ (pathIntake p s).sc = s.sc ∧
    (pathIntake p s).sched = s.sched ∧ (pathIntake p s).pc = s.pc ∧ (pathIntake p s).cs = s.cs ∧
    (pathIntake p s).pv = s.pv ∧ (pathIntake p s).su = s.su ∧ (pathIntake p s).ju = s.ju ∧
    (pathIntake p s).bu = s.bu ∧ (pathIntake p s).hu = s.hu ∧ (pathIntake p s).lu = s.lu ∧
    (pathIntake p s).du = s.du ∧ (pathIntake p s).cu = s.cu ∧ (pathIntake p s).draws = s.draws ∧
    (pathIntake p s).pending = s.pending := by
  unfold pathIntake; (repeat' split) <;> simp

/-- `pathLeadingReport` changes `pu` alone. -/
@[simp] theorem pathLeadingReport_frame (n : Fin 8) (r : StatusRec) (s : State) :
    (pathLeadingReport n r s).powered = s.powered ∧ (pathLeadingReport n r s).now = s.now ∧
    (pathLeadingReport n r s).sc = s.sc ∧ (pathLeadingReport n r s).sched = s.sched ∧
    (pathLeadingReport n r s).pc = s.pc ∧ (pathLeadingReport n r s).cs = s.cs ∧
    (pathLeadingReport n r s).li = s.li ∧ (pathLeadingReport n r s).pv = s.pv ∧
    (pathLeadingReport n r s).su = s.su ∧ (pathLeadingReport n r s).ju = s.ju ∧
    (pathLeadingReport n r s).bu = s.bu ∧ (pathLeadingReport n r s).hu = s.hu ∧
    (pathLeadingReport n r s).lu = s.lu ∧ (pathLeadingReport n r s).du = s.du ∧
    (pathLeadingReport n r s).cu = s.cu ∧ (pathLeadingReport n r s).draws = s.draws ∧
    (pathLeadingReport n r s).pending = s.pending := by
  unfold pathLeadingReport; (repeat' split) <;> simp

/-- `State.trimQueue` changes `pu` alone. -/
@[simp] theorem State.trimQueue_frame (d : Option Dist) (s : State) :
    (s.trimQueue d).powered = s.powered ∧ (s.trimQueue d).now = s.now ∧ (s.trimQueue d).sc = s.sc ∧
    (s.trimQueue d).sched = s.sched ∧ (s.trimQueue d).pc = s.pc ∧ (s.trimQueue d).cs = s.cs ∧
    (s.trimQueue d).li = s.li ∧ (s.trimQueue d).pv = s.pv ∧ (s.trimQueue d).su = s.su ∧
    (s.trimQueue d).ju = s.ju ∧ (s.trimQueue d).bu = s.bu ∧ (s.trimQueue d).hu = s.hu ∧
    (s.trimQueue d).lu = s.lu ∧ (s.trimQueue d).du = s.du ∧ (s.trimQueue d).cu = s.cu ∧
    (s.trimQueue d).draws = s.draws ∧ (s.trimQueue d).pending = s.pending := by
  unfold State.trimQueue; simp

/-- `lagCheck` changes `pu`, `li` alone. -/
@[simp] theorem lagCheck_frame (s : State) :
    (lagCheck s).powered = s.powered ∧ (lagCheck s).now = s.now ∧ (lagCheck s).sc = s.sc ∧
    (lagCheck s).sched = s.sched ∧ (lagCheck s).pc = s.pc ∧ (lagCheck s).cs = s.cs ∧ (lagCheck s).pv = s.pv ∧
    (lagCheck s).su = s.su ∧ (lagCheck s).ju = s.ju ∧ (lagCheck s).bu = s.bu ∧ (lagCheck s).hu = s.hu ∧
    (lagCheck s).lu = s.lu ∧ (lagCheck s).du = s.du ∧ (lagCheck s).cu = s.cu ∧ (lagCheck s).draws = s.draws ∧
    (lagCheck s).pending = s.pending := by
  unfold lagCheck; (repeat' split) <;> simp

/-- `recordEdge` changes `pc`, `li` alone. -/
@[simp] theorem recordEdge_frame (w : Side) (d : Direction) (s : State) :
    (recordEdge w d s).powered = s.powered ∧ (recordEdge w d s).now = s.now ∧ (recordEdge w d s).sc = s.sc ∧
    (recordEdge w d s).sched = s.sched ∧ (recordEdge w d s).cs = s.cs ∧ (recordEdge w d s).pv = s.pv ∧
    (recordEdge w d s).pu = s.pu ∧ (recordEdge w d s).su = s.su ∧ (recordEdge w d s).ju = s.ju ∧
    (recordEdge w d s).bu = s.bu ∧ (recordEdge w d s).hu = s.hu ∧ (recordEdge w d s).lu = s.lu ∧
    (recordEdge w d s).du = s.du ∧ (recordEdge w d s).cu = s.cu ∧ (recordEdge w d s).draws = s.draws ∧
    (recordEdge w d s).pending = s.pending := by
  unfold recordEdge; simp

/-- `leadingEdge` changes `pc`, `pu`, `su`, `li` alone. -/
@[simp] theorem leadingEdge_frame (d : Direction) (s : State) :
    (leadingEdge d s).powered = s.powered ∧ (leadingEdge d s).now = s.now ∧ (leadingEdge d s).sc = s.sc ∧
    (leadingEdge d s).sched = s.sched ∧ (leadingEdge d s).cs = s.cs ∧ (leadingEdge d s).pv = s.pv ∧
    (leadingEdge d s).ju = s.ju ∧ (leadingEdge d s).bu = s.bu ∧ (leadingEdge d s).hu = s.hu ∧
    (leadingEdge d s).lu = s.lu ∧ (leadingEdge d s).du = s.du ∧ (leadingEdge d s).cu = s.cu ∧
    (leadingEdge d s).draws = s.draws ∧ (leadingEdge d s).pending = s.pending := by
  unfold leadingEdge; (repeat' split) <;> simp

/-- `followingEdge` changes `pc`, `pu`, `li` alone. -/
@[simp] theorem followingEdge_frame (d : Direction) (s : State) :
    (followingEdge d s).powered = s.powered ∧ (followingEdge d s).now = s.now ∧ (followingEdge d s).sc = s.sc ∧
    (followingEdge d s).sched = s.sched ∧ (followingEdge d s).cs = s.cs ∧ (followingEdge d s).pv = s.pv ∧
    (followingEdge d s).su = s.su ∧ (followingEdge d s).ju = s.ju ∧ (followingEdge d s).bu = s.bu ∧
    (followingEdge d s).hu = s.hu ∧ (followingEdge d s).lu = s.lu ∧ (followingEdge d s).du = s.du ∧
    (followingEdge d s).cu = s.cu ∧ (followingEdge d s).draws = s.draws ∧
    (followingEdge d s).pending = s.pending := by
  unfold followingEdge; (repeat' split) <;> simp

/-- `wheelEdge` changes `pc`, `pu`, `su`, `li` alone. -/
@[simp] theorem wheelEdge_frame (w : Side) (d : Direction) (s : State) :
    (wheelEdge w d s).powered = s.powered ∧ (wheelEdge w d s).now = s.now ∧ (wheelEdge w d s).sc = s.sc ∧
    (wheelEdge w d s).sched = s.sched ∧ (wheelEdge w d s).cs = s.cs ∧ (wheelEdge w d s).pv = s.pv ∧
    (wheelEdge w d s).ju = s.ju ∧ (wheelEdge w d s).bu = s.bu ∧ (wheelEdge w d s).hu = s.hu ∧
    (wheelEdge w d s).lu = s.lu ∧ (wheelEdge w d s).du = s.du ∧ (wheelEdge w d s).cu = s.cu ∧
    (wheelEdge w d s).draws = s.draws ∧ (wheelEdge w d s).pending = s.pending := by
  unfold wheelEdge; (repeat' split) <;> simp

/-- `speedUpdate` changes `pc`, `pv`, `sched` alone. -/
@[simp] theorem speedUpdate_frame (s : State) :
    (speedUpdate s).powered = s.powered ∧ (speedUpdate s).now = s.now ∧ (speedUpdate s).sc = s.sc ∧
    (speedUpdate s).cs = s.cs ∧ (speedUpdate s).li = s.li ∧ (speedUpdate s).pu = s.pu ∧
    (speedUpdate s).su = s.su ∧ (speedUpdate s).ju = s.ju ∧ (speedUpdate s).bu = s.bu ∧
    (speedUpdate s).hu = s.hu ∧ (speedUpdate s).lu = s.lu ∧ (speedUpdate s).du = s.du ∧
    (speedUpdate s).cu = s.cu ∧ (speedUpdate s).draws = s.draws ∧ (speedUpdate s).pending = s.pending := by
  unfold speedUpdate; simp

/-- `scanStart` changes `cs`, `sched` alone. -/
@[simp] theorem scanStart_frame (s : State) :
    (scanStart s).powered = s.powered ∧ (scanStart s).now = s.now ∧ (scanStart s).sc = s.sc ∧
    (scanStart s).pc = s.pc ∧ (scanStart s).li = s.li ∧ (scanStart s).pv = s.pv ∧ (scanStart s).pu = s.pu ∧
    (scanStart s).su = s.su ∧ (scanStart s).ju = s.ju ∧ (scanStart s).bu = s.bu ∧ (scanStart s).hu = s.hu ∧
    (scanStart s).lu = s.lu ∧ (scanStart s).du = s.du ∧ (scanStart s).cu = s.cu ∧
    (scanStart s).draws = s.draws ∧ (scanStart s).pending = s.pending := by
  simp [scanStart]

/-- `completeConversion` changes `cs`, `li`, `pu` alone. -/
@[simp] theorem completeConversion_frame (i : Fin 8) (c : BitVec 10) (s : State) :
    (completeConversion i c s).powered = s.powered ∧ (completeConversion i c s).now = s.now ∧
    (completeConversion i c s).sc = s.sc ∧ (completeConversion i c s).sched = s.sched ∧
    (completeConversion i c s).pc = s.pc ∧ (completeConversion i c s).pv = s.pv ∧
    (completeConversion i c s).su = s.su ∧ (completeConversion i c s).ju = s.ju ∧
    (completeConversion i c s).bu = s.bu ∧ (completeConversion i c s).hu = s.hu ∧
    (completeConversion i c s).lu = s.lu ∧ (completeConversion i c s).du = s.du ∧
    (completeConversion i c s).cu = s.cu ∧ (completeConversion i c s).draws = s.draws ∧
    (completeConversion i c s).pending = s.pending := by
  unfold completeConversion; (repeat' split) <;> simp

/-- `conversionComplete` changes `cs`, `li`, `pu` alone. -/
@[simp] theorem conversionComplete_frame (c : BitVec 10) (s : State) :
    (conversionComplete c s).powered = s.powered ∧ (conversionComplete c s).now = s.now ∧
    (conversionComplete c s).sc = s.sc ∧ (conversionComplete c s).sched = s.sched ∧
    (conversionComplete c s).pc = s.pc ∧ (conversionComplete c s).pv = s.pv ∧
    (conversionComplete c s).su = s.su ∧ (conversionComplete c s).ju = s.ju ∧
    (conversionComplete c s).bu = s.bu ∧ (conversionComplete c s).hu = s.hu ∧
    (conversionComplete c s).lu = s.lu ∧ (conversionComplete c s).du = s.du ∧
    (conversionComplete c s).cu = s.cu ∧ (conversionComplete c s).draws = s.draws ∧
    (conversionComplete c s).pending = s.pending := by
  unfold conversionComplete; (repeat' split) <;> simp

/-- `State.quietNow` changes `li` alone. -/
@[simp] theorem State.quietNow_frame (s : State) :
    s.quietNow.powered = s.powered ∧ s.quietNow.now = s.now ∧ s.quietNow.sc = s.sc ∧
    s.quietNow.sched = s.sched ∧ s.quietNow.pc = s.pc ∧ s.quietNow.cs = s.cs ∧ s.quietNow.pv = s.pv ∧
    s.quietNow.pu = s.pu ∧ s.quietNow.su = s.su ∧ s.quietNow.ju = s.ju ∧ s.quietNow.bu = s.bu ∧
    s.quietNow.hu = s.hu ∧ s.quietNow.lu = s.lu ∧ s.quietNow.du = s.du ∧ s.quietNow.cu = s.cu ∧
    s.quietNow.draws = s.draws ∧ s.quietNow.pending = s.pending := by
  unfold State.quietNow; simp

/-- `State.lineHeld` changes `li` alone. -/
@[simp] theorem State.lineHeld_frame (s : State) :
    s.lineHeld.powered = s.powered ∧ s.lineHeld.now = s.now ∧ s.lineHeld.sc = s.sc ∧
    s.lineHeld.sched = s.sched ∧ s.lineHeld.pc = s.pc ∧ s.lineHeld.cs = s.cs ∧ s.lineHeld.pv = s.pv ∧
    s.lineHeld.pu = s.pu ∧ s.lineHeld.su = s.su ∧ s.lineHeld.ju = s.ju ∧ s.lineHeld.bu = s.bu ∧
    s.lineHeld.hu = s.hu ∧ s.lineHeld.lu = s.lu ∧ s.lineHeld.du = s.du ∧ s.lineHeld.cu = s.cu ∧
    s.lineHeld.draws = s.draws ∧ s.lineHeld.pending = s.pending := by
  unfold State.lineHeld; simp

/-- `badChar` changes `li` alone. -/
@[simp] theorem badChar_frame (s : State) :
    (badChar s).powered = s.powered ∧ (badChar s).now = s.now ∧ (badChar s).sc = s.sc ∧
    (badChar s).sched = s.sched ∧ (badChar s).pc = s.pc ∧ (badChar s).cs = s.cs ∧ (badChar s).pv = s.pv ∧
    (badChar s).pu = s.pu ∧ (badChar s).su = s.su ∧ (badChar s).ju = s.ju ∧ (badChar s).bu = s.bu ∧
    (badChar s).hu = s.hu ∧ (badChar s).lu = s.lu ∧ (badChar s).du = s.du ∧ (badChar s).cu = s.cu ∧
    (badChar s).draws = s.draws ∧ (badChar s).pending = s.pending := by
  unfold badChar; simp

/-- `outsideChar` changes `li` alone. -/
@[simp] theorem outsideChar_frame (c : Byte) (s : State) :
    (outsideChar c s).powered = s.powered ∧ (outsideChar c s).now = s.now ∧ (outsideChar c s).sc = s.sc ∧
    (outsideChar c s).sched = s.sched ∧ (outsideChar c s).pc = s.pc ∧ (outsideChar c s).cs = s.cs ∧
    (outsideChar c s).pv = s.pv ∧ (outsideChar c s).pu = s.pu ∧ (outsideChar c s).su = s.su ∧
    (outsideChar c s).ju = s.ju ∧ (outsideChar c s).bu = s.bu ∧ (outsideChar c s).hu = s.hu ∧
    (outsideChar c s).lu = s.lu ∧ (outsideChar c s).du = s.du ∧ (outsideChar c s).cu = s.cu ∧
    (outsideChar c s).draws = s.draws ∧ (outsideChar c s).pending = s.pending := by
  unfold outsideChar; (repeat' split) <;> simp

/-- `insideChar` changes `li` alone. -/
@[simp] theorem insideChar_frame (l : List Byte) (c : Byte) (s : State) :
    (insideChar l c s).powered = s.powered ∧ (insideChar l c s).now = s.now ∧ (insideChar l c s).sc = s.sc ∧
    (insideChar l c s).sched = s.sched ∧ (insideChar l c s).pc = s.pc ∧ (insideChar l c s).cs = s.cs ∧
    (insideChar l c s).pv = s.pv ∧ (insideChar l c s).pu = s.pu ∧ (insideChar l c s).su = s.su ∧
    (insideChar l c s).ju = s.ju ∧ (insideChar l c s).bu = s.bu ∧ (insideChar l c s).hu = s.hu ∧
    (insideChar l c s).lu = s.lu ∧ (insideChar l c s).du = s.du ∧ (insideChar l c s).cu = s.cu ∧
    (insideChar l c s).draws = s.draws ∧ (insideChar l c s).pending = s.pending := by
  unfold insideChar; dsimp only; (repeat' split) <;> simp

/-- `startBit` changes `li` alone. -/
@[simp] theorem startBit_frame (s : State) :
    (startBit s).powered = s.powered ∧ (startBit s).now = s.now ∧ (startBit s).sc = s.sc ∧
    (startBit s).sched = s.sched ∧ (startBit s).pc = s.pc ∧ (startBit s).cs = s.cs ∧ (startBit s).pv = s.pv ∧
    (startBit s).pu = s.pu ∧ (startBit s).su = s.su ∧ (startBit s).ju = s.ju ∧ (startBit s).bu = s.bu ∧
    (startBit s).hu = s.hu ∧ (startBit s).lu = s.lu ∧ (startBit s).du = s.du ∧ (startBit s).cu = s.cu ∧
    (startBit s).draws = s.draws ∧ (startBit s).pending = s.pending := by
  unfold startBit; (repeat' split) <;> simp

/-- `State.charTaken` changes `li` alone. -/
@[simp] theorem State.charTaken_frame (s : State) :
    s.charTaken.powered = s.powered ∧ s.charTaken.now = s.now ∧ s.charTaken.sc = s.sc ∧ s.charTaken.sched = s.sched ∧
    s.charTaken.pc = s.pc ∧ s.charTaken.cs = s.cs ∧ s.charTaken.pv = s.pv ∧ s.charTaken.pu = s.pu ∧
    s.charTaken.su = s.su ∧ s.charTaken.ju = s.ju ∧ s.charTaken.bu = s.bu ∧ s.charTaken.hu = s.hu ∧
    s.charTaken.lu = s.lu ∧ s.charTaken.du = s.du ∧ s.charTaken.cu = s.cu ∧ s.charTaken.draws = s.draws ∧
    s.charTaken.pending = s.pending := by
  unfold State.charTaken; simp

/-- `characterTaken` changes `li` alone. -/
@[simp] theorem characterTaken_frame (c : Byte) (g : Bool) (s : State) :
    (characterTaken c g s).powered = s.powered ∧ (characterTaken c g s).now = s.now ∧
    (characterTaken c g s).sc = s.sc ∧ (characterTaken c g s).sched = s.sched ∧ (characterTaken c g s).pc = s.pc ∧
    (characterTaken c g s).cs = s.cs ∧ (characterTaken c g s).pv = s.pv ∧ (characterTaken c g s).pu = s.pu ∧
    (characterTaken c g s).su = s.su ∧ (characterTaken c g s).ju = s.ju ∧ (characterTaken c g s).bu = s.bu ∧
    (characterTaken c g s).hu = s.hu ∧ (characterTaken c g s).lu = s.lu ∧ (characterTaken c g s).du = s.du ∧
    (characterTaken c g s).cu = s.cu ∧ (characterTaken c g s).draws = s.draws ∧
    (characterTaken c g s).pending = s.pending := by
  unfold characterTaken; (repeat' split) <;> simp

/-- `lineIdle` changes `li` alone. -/
@[simp] theorem lineIdle_frame (s : State) :
    (lineIdle s).powered = s.powered ∧ (lineIdle s).now = s.now ∧ (lineIdle s).sc = s.sc ∧
    (lineIdle s).sched = s.sched ∧ (lineIdle s).pc = s.pc ∧ (lineIdle s).cs = s.cs ∧ (lineIdle s).pv = s.pv ∧
    (lineIdle s).pu = s.pu ∧ (lineIdle s).su = s.su ∧ (lineIdle s).ju = s.ju ∧ (lineIdle s).bu = s.bu ∧
    (lineIdle s).hu = s.hu ∧ (lineIdle s).lu = s.lu ∧ (lineIdle s).du = s.du ∧ (lineIdle s).cu = s.cu ∧
    (lineIdle s).draws = s.draws ∧ (lineIdle s).pending = s.pending := by
  unfold lineIdle; dsimp only; (repeat' split) <;> simp

/-- `State.lineSeen` changes `li` alone. -/
@[simp] theorem State.lineSeen_frame (i : CharacterInstant) (s : State) :
    (s.lineSeen i).powered = s.powered ∧ (s.lineSeen i).now = s.now ∧ (s.lineSeen i).sc = s.sc ∧
    (s.lineSeen i).sched = s.sched ∧ (s.lineSeen i).pc = s.pc ∧ (s.lineSeen i).cs = s.cs ∧
    (s.lineSeen i).pv = s.pv ∧ (s.lineSeen i).pu = s.pu ∧ (s.lineSeen i).su = s.su ∧ (s.lineSeen i).ju = s.ju ∧
    (s.lineSeen i).bu = s.bu ∧ (s.lineSeen i).hu = s.hu ∧ (s.lineSeen i).lu = s.lu ∧ (s.lineSeen i).du = s.du ∧
    (s.lineSeen i).cu = s.cu ∧ (s.lineSeen i).draws = s.draws ∧ (s.lineSeen i).pending = s.pending := by
  unfold State.lineSeen; (repeat' split) <;> simp

/-- `characterReceived` changes `li` alone. -/
@[simp] theorem characterReceived_frame (c : Byte) (i : CharacterInstant) (s : State) :
    (characterReceived c i s).powered = s.powered ∧ (characterReceived c i s).now = s.now ∧
    (characterReceived c i s).sc = s.sc ∧ (characterReceived c i s).sched = s.sched ∧ (characterReceived c i s).pc = s.pc ∧
    (characterReceived c i s).cs = s.cs ∧ (characterReceived c i s).pv = s.pv ∧ (characterReceived c i s).pu = s.pu ∧
    (characterReceived c i s).su = s.su ∧ (characterReceived c i s).ju = s.ju ∧ (characterReceived c i s).bu = s.bu ∧
    (characterReceived c i s).hu = s.hu ∧ (characterReceived c i s).lu = s.lu ∧ (characterReceived c i s).du = s.du ∧
    (characterReceived c i s).cu = s.cu ∧ (characterReceived c i s).draws = s.draws ∧
    (characterReceived c i s).pending = s.pending := by
  unfold characterReceived; (repeat' split) <;> simp

/-- `frameGapTimeout` changes `li` alone. -/
@[simp] theorem frameGapTimeout_frame (s : State) :
    (frameGapTimeout s).powered = s.powered ∧ (frameGapTimeout s).now = s.now ∧ (frameGapTimeout s).sc = s.sc ∧
    (frameGapTimeout s).sched = s.sched ∧ (frameGapTimeout s).pc = s.pc ∧ (frameGapTimeout s).cs = s.cs ∧
    (frameGapTimeout s).pv = s.pv ∧ (frameGapTimeout s).pu = s.pu ∧ (frameGapTimeout s).su = s.su ∧
    (frameGapTimeout s).ju = s.ju ∧ (frameGapTimeout s).bu = s.bu ∧ (frameGapTimeout s).hu = s.hu ∧
    (frameGapTimeout s).lu = s.lu ∧ (frameGapTimeout s).du = s.du ∧ (frameGapTimeout s).cu = s.cu ∧
    (frameGapTimeout s).draws = s.draws ∧ (frameGapTimeout s).pending = s.pending := by
  unfold frameGapTimeout; simp

/-- `idleWaitComplete` changes `li` alone. -/
@[simp] theorem idleWaitComplete_frame (s : State) :
    (idleWaitComplete s).powered = s.powered ∧ (idleWaitComplete s).now = s.now ∧
    (idleWaitComplete s).sc = s.sc ∧ (idleWaitComplete s).sched = s.sched ∧ (idleWaitComplete s).pc = s.pc ∧
    (idleWaitComplete s).cs = s.cs ∧ (idleWaitComplete s).pv = s.pv ∧ (idleWaitComplete s).pu = s.pu ∧
    (idleWaitComplete s).su = s.su ∧ (idleWaitComplete s).ju = s.ju ∧ (idleWaitComplete s).bu = s.bu ∧
    (idleWaitComplete s).hu = s.hu ∧ (idleWaitComplete s).lu = s.lu ∧ (idleWaitComplete s).du = s.du ∧
    (idleWaitComplete s).cu = s.cu ∧ (idleWaitComplete s).draws = s.draws ∧
    (idleWaitComplete s).pending = s.pending := by
  unfold idleWaitComplete; (repeat' split) <;> simp

/-- `storeStatus` changes `pv` alone. -/
@[simp] theorem storeStatus_frame (n : Fin 8) (r : StatusRec) (a : Time) (s : State) :
    (storeStatus n r a s).powered = s.powered ∧ (storeStatus n r a s).now = s.now ∧
    (storeStatus n r a s).sc = s.sc ∧ (storeStatus n r a s).sched = s.sched ∧ (storeStatus n r a s).pc = s.pc ∧
    (storeStatus n r a s).cs = s.cs ∧ (storeStatus n r a s).li = s.li ∧ (storeStatus n r a s).pu = s.pu ∧
    (storeStatus n r a s).su = s.su ∧ (storeStatus n r a s).ju = s.ju ∧ (storeStatus n r a s).bu = s.bu ∧
    (storeStatus n r a s).hu = s.hu ∧ (storeStatus n r a s).lu = s.lu ∧ (storeStatus n r a s).du = s.du ∧
    (storeStatus n r a s).cu = s.cu ∧ (storeStatus n r a s).draws = s.draws ∧
    (storeStatus n r a s).pending = s.pending := by
  unfold storeStatus; simp

/-- `stampMotion` changes `pv` alone. -/
@[simp] theorem stampMotion_frame (e : Bool) (r : StatusRec) (a : Time) (s : State) :
    (stampMotion e r a s).powered = s.powered ∧ (stampMotion e r a s).now = s.now ∧
    (stampMotion e r a s).sc = s.sc ∧ (stampMotion e r a s).sched = s.sched ∧ (stampMotion e r a s).pc = s.pc ∧
    (stampMotion e r a s).cs = s.cs ∧ (stampMotion e r a s).li = s.li ∧ (stampMotion e r a s).pu = s.pu ∧
    (stampMotion e r a s).su = s.su ∧ (stampMotion e r a s).ju = s.ju ∧ (stampMotion e r a s).bu = s.bu ∧
    (stampMotion e r a s).hu = s.hu ∧ (stampMotion e r a s).lu = s.lu ∧ (stampMotion e r a s).du = s.du ∧
    (stampMotion e r a s).cu = s.cu ∧ (stampMotion e r a s).draws = s.draws ∧
    (stampMotion e r a s).pending = s.pending := by
  unfold stampMotion; (repeat' split) <;> simp

/-- `acceptStatus` changes `pv`, `li`, `pu` alone. -/
@[simp] theorem acceptStatus_frame (n : Fin 8) (r : StatusRec) (a : Time) (s : State) :
    (acceptStatus n r a s).powered = s.powered ∧ (acceptStatus n r a s).now = s.now ∧
    (acceptStatus n r a s).sc = s.sc ∧ (acceptStatus n r a s).sched = s.sched ∧
    (acceptStatus n r a s).pc = s.pc ∧ (acceptStatus n r a s).cs = s.cs ∧ (acceptStatus n r a s).su = s.su ∧
    (acceptStatus n r a s).ju = s.ju ∧ (acceptStatus n r a s).bu = s.bu ∧ (acceptStatus n r a s).hu = s.hu ∧
    (acceptStatus n r a s).lu = s.lu ∧ (acceptStatus n r a s).du = s.du ∧ (acceptStatus n r a s).cu = s.cu ∧
    (acceptStatus n r a s).draws = s.draws ∧ (acceptStatus n r a s).pending = s.pending := by
  unfold acceptStatus; simp

/-- `acceptDemand` changes `pv`, `su`, `hu`, `lu`, `du` alone. -/
@[simp] theorem acceptDemand_frame (k : LockLevels) (r : DemandRec) (a : Time) (s : State) :
    (acceptDemand k r a s).powered = s.powered ∧ (acceptDemand k r a s).now = s.now ∧
    (acceptDemand k r a s).sc = s.sc ∧ (acceptDemand k r a s).sched = s.sched ∧
    (acceptDemand k r a s).pc = s.pc ∧ (acceptDemand k r a s).cs = s.cs ∧ (acceptDemand k r a s).li = s.li ∧
    (acceptDemand k r a s).pu = s.pu ∧ (acceptDemand k r a s).ju = s.ju ∧ (acceptDemand k r a s).bu = s.bu ∧
    (acceptDemand k r a s).cu = s.cu ∧ (acceptDemand k r a s).draws = s.draws ∧
    (acceptDemand k r a s).pending = s.pending := by
  unfold acceptDemand; simp

/-- `noteNotice` changes `cu` alone. -/
@[simp] theorem noteNotice_frame (ks : List EventKind) (a : Time) (s : State) :
    (noteNotice ks a s).powered = s.powered ∧ (noteNotice ks a s).now = s.now ∧ (noteNotice ks a s).sc = s.sc ∧
    (noteNotice ks a s).sched = s.sched ∧ (noteNotice ks a s).pc = s.pc ∧ (noteNotice ks a s).cs = s.cs ∧
    (noteNotice ks a s).li = s.li ∧ (noteNotice ks a s).pv = s.pv ∧ (noteNotice ks a s).pu = s.pu ∧
    (noteNotice ks a s).su = s.su ∧ (noteNotice ks a s).ju = s.ju ∧ (noteNotice ks a s).bu = s.bu ∧
    (noteNotice ks a s).hu = s.hu ∧ (noteNotice ks a s).lu = s.lu ∧ (noteNotice ks a s).du = s.du ∧
    (noteNotice ks a s).draws = s.draws ∧ (noteNotice ks a s).pending = s.pending := by
  unfold noteNotice; (repeat' split) <;> simp

/-- `acceptPath` changes `pu`, `li` alone. -/
@[simp] theorem acceptPath_frame (p : PathPoint) (s : State) :
    (acceptPath p s).powered = s.powered ∧ (acceptPath p s).now = s.now ∧ (acceptPath p s).sc = s.sc ∧
    (acceptPath p s).sched = s.sched ∧ (acceptPath p s).pc = s.pc ∧ (acceptPath p s).cs = s.cs ∧
    (acceptPath p s).pv = s.pv ∧ (acceptPath p s).su = s.su ∧ (acceptPath p s).ju = s.ju ∧
    (acceptPath p s).bu = s.bu ∧ (acceptPath p s).hu = s.hu ∧ (acceptPath p s).lu = s.lu ∧
    (acceptPath p s).du = s.du ∧ (acceptPath p s).cu = s.cu ∧ (acceptPath p s).draws = s.draws ∧
    (acceptPath p s).pending = s.pending := by
  unfold acceptPath; (repeat' split) <;> simp

/-- `handOn` changes `pv`, `li`, `pu`, `su`, `hu`, `lu`, `du`, `cu` alone. -/
@[simp] theorem handOn_frame (k : LockLevels) (n : Fin 8) (f : Frame) (a : Time) (s : State) :
    (handOn k n f a s).powered = s.powered ∧ (handOn k n f a s).now = s.now ∧ (handOn k n f a s).sc = s.sc ∧
    (handOn k n f a s).sched = s.sched ∧ (handOn k n f a s).pc = s.pc ∧ (handOn k n f a s).cs = s.cs ∧
    (handOn k n f a s).ju = s.ju ∧ (handOn k n f a s).bu = s.bu ∧ (handOn k n f a s).draws = s.draws ∧
    (handOn k n f a s).pending = s.pending := by
  unfold handOn; (repeat' split) <;> simp

/-- `reportPeer` changes `sc` alone. -/
@[simp] theorem reportPeer_frame (a : Time) (s : State) :
    (reportPeer a s).powered = s.powered ∧ (reportPeer a s).now = s.now ∧ (reportPeer a s).sched = s.sched ∧
    (reportPeer a s).pc = s.pc ∧ (reportPeer a s).cs = s.cs ∧ (reportPeer a s).li = s.li ∧
    (reportPeer a s).pv = s.pv ∧ (reportPeer a s).pu = s.pu ∧ (reportPeer a s).su = s.su ∧
    (reportPeer a s).ju = s.ju ∧ (reportPeer a s).bu = s.bu ∧ (reportPeer a s).hu = s.hu ∧
    (reportPeer a s).lu = s.lu ∧ (reportPeer a s).du = s.du ∧ (reportPeer a s).cu = s.cu ∧
    (reportPeer a s).draws = s.draws ∧ (reportPeer a s).pending = s.pending := by
  unfold reportPeer; (repeat' split) <;> simp

/-- `applyVerdict` changes `sc`, `sched`, `pc`, `cs`, `li`, `pv`, `pu`, `su`, `ju`, `bu`, `hu`, `lu`, `du`, `cu` alone. -/
@[simp] theorem applyVerdict_frame (k : LockLevels) (a : Time) (v : Verdict) (s : State) :
    (applyVerdict k a v s).powered = s.powered ∧ (applyVerdict k a v s).now = s.now ∧
    (applyVerdict k a v s).draws = s.draws ∧ (applyVerdict k a v s).pending = s.pending := by
  unfold applyVerdict; (repeat' split) <;> simp

/-- `frameReceived` changes `sc`, `sched`, `pc`, `cs`, `li`, `pv`, `pu`, `su`, `ju`, `bu`, `hu`, `lu`, `du`, `cu` alone. -/
@[simp] theorem frameReceived_frame (k : LockLevels) (s : State) :
    (frameReceived k s).powered = s.powered ∧ (frameReceived k s).now = s.now ∧
    (frameReceived k s).draws = s.draws ∧ (frameReceived k s).pending = s.pending := by
  unfold frameReceived; (repeat' split) <;> simp

/-- `launch` changes `li` alone. -/
@[simp] theorem launch_frame (k : FrameKind) (b : List Byte) (s : State) :
    (launch k b s).powered = s.powered ∧ (launch k b s).now = s.now ∧ (launch k b s).sc = s.sc ∧
    (launch k b s).sched = s.sched ∧ (launch k b s).pc = s.pc ∧ (launch k b s).cs = s.cs ∧
    (launch k b s).pv = s.pv ∧ (launch k b s).pu = s.pu ∧ (launch k b s).su = s.su ∧ (launch k b s).ju = s.ju ∧
    (launch k b s).bu = s.bu ∧ (launch k b s).hu = s.hu ∧ (launch k b s).lu = s.lu ∧ (launch k b s).du = s.du ∧
    (launch k b s).cu = s.cu ∧ (launch k b s).draws = s.draws ∧ (launch k b s).pending = s.pending := by
  unfold launch; simp

/-- `afterLaunch` changes `li`, `cu`, `draws` alone. -/
@[simp] theorem afterLaunch_frame (k : FrameKind) (s : State) :
    (afterLaunch k s).powered = s.powered ∧ (afterLaunch k s).now = s.now ∧ (afterLaunch k s).sc = s.sc ∧
    (afterLaunch k s).sched = s.sched ∧ (afterLaunch k s).pc = s.pc ∧ (afterLaunch k s).cs = s.cs ∧
    (afterLaunch k s).pv = s.pv ∧ (afterLaunch k s).pu = s.pu ∧ (afterLaunch k s).su = s.su ∧
    (afterLaunch k s).ju = s.ju ∧ (afterLaunch k s).bu = s.bu ∧ (afterLaunch k s).hu = s.hu ∧
    (afterLaunch k s).lu = s.lu ∧ (afterLaunch k s).du = s.du ∧ (afterLaunch k s).pending = s.pending := by
  unfold afterLaunch; (repeat' split) <;> simp

/-- `frameBegin` changes `li`, `cu`, `draws` alone. -/
@[simp] theorem frameBegin_frame (k : FrameKind) (s : State) :
    (frameBegin k s).powered = s.powered ∧ (frameBegin k s).now = s.now ∧ (frameBegin k s).sc = s.sc ∧
    (frameBegin k s).sched = s.sched ∧ (frameBegin k s).pc = s.pc ∧ (frameBegin k s).cs = s.cs ∧
    (frameBegin k s).pv = s.pv ∧ (frameBegin k s).pu = s.pu ∧ (frameBegin k s).su = s.su ∧
    (frameBegin k s).ju = s.ju ∧ (frameBegin k s).bu = s.bu ∧ (frameBegin k s).hu = s.hu ∧
    (frameBegin k s).lu = s.lu ∧ (frameBegin k s).du = s.du ∧ (frameBegin k s).pending = s.pending := by
  unfold frameBegin; (repeat' split) <;> simp

/-- `transmitComplete` changes `li` alone. -/
@[simp] theorem transmitComplete_frame (s : State) :
    (transmitComplete s).powered = s.powered ∧ (transmitComplete s).now = s.now ∧
    (transmitComplete s).sc = s.sc ∧ (transmitComplete s).sched = s.sched ∧ (transmitComplete s).pc = s.pc ∧
    (transmitComplete s).cs = s.cs ∧ (transmitComplete s).pv = s.pv ∧ (transmitComplete s).pu = s.pu ∧
    (transmitComplete s).su = s.su ∧ (transmitComplete s).ju = s.ju ∧ (transmitComplete s).bu = s.bu ∧
    (transmitComplete s).hu = s.hu ∧ (transmitComplete s).lu = s.lu ∧ (transmitComplete s).du = s.du ∧
    (transmitComplete s).cu = s.cu ∧ (transmitComplete s).draws = s.draws ∧
    (transmitComplete s).pending = s.pending := by
  unfold transmitComplete; simp

/-- `statusRequest` changes `li`, `sched` alone. -/
@[simp] theorem statusRequest_frame (s : State) :
    (statusRequest s).powered = s.powered ∧ (statusRequest s).now = s.now ∧ (statusRequest s).sc = s.sc ∧
    (statusRequest s).pc = s.pc ∧ (statusRequest s).cs = s.cs ∧ (statusRequest s).pv = s.pv ∧
    (statusRequest s).pu = s.pu ∧ (statusRequest s).su = s.su ∧ (statusRequest s).ju = s.ju ∧
    (statusRequest s).bu = s.bu ∧ (statusRequest s).hu = s.hu ∧ (statusRequest s).lu = s.lu ∧
    (statusRequest s).du = s.du ∧ (statusRequest s).cu = s.cu ∧ (statusRequest s).draws = s.draws ∧
    (statusRequest s).pending = s.pending := by
  unfold statusRequest; simp

/-- `noticeInterval` changes `li`, `sched` alone. -/
@[simp] theorem noticeInterval_frame (s : State) :
    (noticeInterval s).powered = s.powered ∧ (noticeInterval s).now = s.now ∧ (noticeInterval s).sc = s.sc ∧
    (noticeInterval s).pc = s.pc ∧ (noticeInterval s).cs = s.cs ∧ (noticeInterval s).pv = s.pv ∧
    (noticeInterval s).pu = s.pu ∧ (noticeInterval s).su = s.su ∧ (noticeInterval s).ju = s.ju ∧
    (noticeInterval s).bu = s.bu ∧ (noticeInterval s).hu = s.hu ∧ (noticeInterval s).lu = s.lu ∧
    (noticeInterval s).du = s.du ∧ (noticeInterval s).cu = s.cu ∧ (noticeInterval s).draws = s.draws ∧
    (noticeInterval s).pending = s.pending := by
  unfold noticeInterval; (repeat' split) <;> simp

/-- `statusExpiry` changes `pv`, `li` alone. -/
@[simp] theorem statusExpiry_frame (n : Fin 8) (s : State) :
    (statusExpiry n s).powered = s.powered ∧ (statusExpiry n s).now = s.now ∧ (statusExpiry n s).sc = s.sc ∧
    (statusExpiry n s).sched = s.sched ∧ (statusExpiry n s).pc = s.pc ∧ (statusExpiry n s).cs = s.cs ∧
    (statusExpiry n s).pu = s.pu ∧ (statusExpiry n s).su = s.su ∧ (statusExpiry n s).ju = s.ju ∧
    (statusExpiry n s).bu = s.bu ∧ (statusExpiry n s).hu = s.hu ∧ (statusExpiry n s).lu = s.lu ∧
    (statusExpiry n s).du = s.du ∧ (statusExpiry n s).cu = s.cu ∧ (statusExpiry n s).draws = s.draws ∧
    (statusExpiry n s).pending = s.pending := by
  unfold statusExpiry; simp

/-- `demandExpiry` changes `pv` alone. -/
@[simp] theorem demandExpiry_frame (s : State) :
    (demandExpiry s).powered = s.powered ∧ (demandExpiry s).now = s.now ∧ (demandExpiry s).sc = s.sc ∧
    (demandExpiry s).sched = s.sched ∧ (demandExpiry s).pc = s.pc ∧ (demandExpiry s).cs = s.cs ∧
    (demandExpiry s).li = s.li ∧ (demandExpiry s).pu = s.pu ∧ (demandExpiry s).su = s.su ∧
    (demandExpiry s).ju = s.ju ∧ (demandExpiry s).bu = s.bu ∧ (demandExpiry s).hu = s.hu ∧
    (demandExpiry s).lu = s.lu ∧ (demandExpiry s).du = s.du ∧ (demandExpiry s).cu = s.cu ∧
    (demandExpiry s).draws = s.draws ∧ (demandExpiry s).pending = s.pending := by
  unfold demandExpiry; simp

/-- `staleEpisodeBegin` changes `pv`, `li` alone. -/
@[simp] theorem staleEpisodeBegin_frame (s : State) :
    (staleEpisodeBegin s).powered = s.powered ∧ (staleEpisodeBegin s).now = s.now ∧
    (staleEpisodeBegin s).sc = s.sc ∧ (staleEpisodeBegin s).sched = s.sched ∧ (staleEpisodeBegin s).pc = s.pc ∧
    (staleEpisodeBegin s).cs = s.cs ∧ (staleEpisodeBegin s).pu = s.pu ∧ (staleEpisodeBegin s).su = s.su ∧
    (staleEpisodeBegin s).ju = s.ju ∧ (staleEpisodeBegin s).bu = s.bu ∧ (staleEpisodeBegin s).hu = s.hu ∧
    (staleEpisodeBegin s).lu = s.lu ∧ (staleEpisodeBegin s).du = s.du ∧ (staleEpisodeBegin s).cu = s.cu ∧
    (staleEpisodeBegin s).draws = s.draws ∧ (staleEpisodeBegin s).pending = s.pending := by
  unfold staleEpisodeBegin; simp

/-- `trackingCheck` changes `su`, `li` alone. -/
@[simp] theorem trackingCheck_frame (s : State) :
    (trackingCheck s).powered = s.powered ∧ (trackingCheck s).now = s.now ∧ (trackingCheck s).sc = s.sc ∧
    (trackingCheck s).sched = s.sched ∧ (trackingCheck s).pc = s.pc ∧ (trackingCheck s).cs = s.cs ∧
    (trackingCheck s).pv = s.pv ∧ (trackingCheck s).pu = s.pu ∧ (trackingCheck s).ju = s.ju ∧
    (trackingCheck s).bu = s.bu ∧ (trackingCheck s).hu = s.hu ∧ (trackingCheck s).lu = s.lu ∧
    (trackingCheck s).du = s.du ∧ (trackingCheck s).cu = s.cu ∧ (trackingCheck s).draws = s.draws ∧
    (trackingCheck s).pending = s.pending := by
  unfold trackingCheck; (repeat' split) <;> simp

/-- `steerStep` changes `su`, `pu` alone. -/
@[simp] theorem steerStep_frame (r : AxleRec) (s : State) :
    (steerStep r s).powered = s.powered ∧ (steerStep r s).now = s.now ∧ (steerStep r s).sc = s.sc ∧
    (steerStep r s).sched = s.sched ∧ (steerStep r s).pc = s.pc ∧ (steerStep r s).cs = s.cs ∧
    (steerStep r s).li = s.li ∧ (steerStep r s).pv = s.pv ∧ (steerStep r s).ju = s.ju ∧
    (steerStep r s).bu = s.bu ∧ (steerStep r s).hu = s.hu ∧ (steerStep r s).lu = s.lu ∧
    (steerStep r s).du = s.du ∧ (steerStep r s).cu = s.cu ∧ (steerStep r s).draws = s.draws ∧
    (steerStep r s).pending = s.pending := by
  unfold steerStep; simp

/-- `steeringUpdate` changes `su`, `pu`, `li`, `sched` alone. -/
@[simp] theorem steeringUpdate_frame (s : State) :
    (steeringUpdate s).powered = s.powered ∧ (steeringUpdate s).now = s.now ∧ (steeringUpdate s).sc = s.sc ∧
    (steeringUpdate s).pc = s.pc ∧ (steeringUpdate s).cs = s.cs ∧ (steeringUpdate s).pv = s.pv ∧
    (steeringUpdate s).ju = s.ju ∧ (steeringUpdate s).bu = s.bu ∧ (steeringUpdate s).hu = s.hu ∧
    (steeringUpdate s).lu = s.lu ∧ (steeringUpdate s).du = s.du ∧ (steeringUpdate s).cu = s.cu ∧
    (steeringUpdate s).draws = s.draws ∧ (steeringUpdate s).pending = s.pending := by
  unfold steeringUpdate; (repeat' split) <;> simp

/-- `jointStep` changes `ju`, `li` alone. -/
@[simp] theorem jointStep_frame (r : JointRec) (s : State) :
    (jointStep r s).powered = s.powered ∧ (jointStep r s).now = s.now ∧ (jointStep r s).sc = s.sc ∧
    (jointStep r s).sched = s.sched ∧ (jointStep r s).pc = s.pc ∧ (jointStep r s).cs = s.cs ∧
    (jointStep r s).pv = s.pv ∧ (jointStep r s).pu = s.pu ∧ (jointStep r s).su = s.su ∧
    (jointStep r s).bu = s.bu ∧ (jointStep r s).hu = s.hu ∧ (jointStep r s).lu = s.lu ∧
    (jointStep r s).du = s.du ∧ (jointStep r s).cu = s.cu ∧ (jointStep r s).draws = s.draws ∧
    (jointStep r s).pending = s.pending := by
  unfold jointStep; simp

/-- `jointUpdate` changes `ju`, `pu`, `li`, `sched` alone. -/
@[simp] theorem jointUpdate_frame (s : State) :
    (jointUpdate s).powered = s.powered ∧ (jointUpdate s).now = s.now ∧ (jointUpdate s).sc = s.sc ∧
    (jointUpdate s).pc = s.pc ∧ (jointUpdate s).cs = s.cs ∧ (jointUpdate s).pv = s.pv ∧
    (jointUpdate s).su = s.su ∧ (jointUpdate s).bu = s.bu ∧ (jointUpdate s).hu = s.hu ∧
    (jointUpdate s).lu = s.lu ∧ (jointUpdate s).du = s.du ∧ (jointUpdate s).cu = s.cu ∧
    (jointUpdate s).draws = s.draws ∧ (jointUpdate s).pending = s.pending := by
  unfold jointUpdate; (repeat' split) <;> simp

/-- `State.withLoad` changes `bu` alone. -/
@[simp] theorem State.withLoad_frame (r : AxleRec) (s : State) :
    (s.withLoad r).powered = s.powered ∧ (s.withLoad r).now = s.now ∧ (s.withLoad r).sc = s.sc ∧
    (s.withLoad r).sched = s.sched ∧ (s.withLoad r).pc = s.pc ∧ (s.withLoad r).cs = s.cs ∧
    (s.withLoad r).li = s.li ∧ (s.withLoad r).pv = s.pv ∧ (s.withLoad r).pu = s.pu ∧ (s.withLoad r).su = s.su ∧
    (s.withLoad r).ju = s.ju ∧ (s.withLoad r).hu = s.hu ∧ (s.withLoad r).lu = s.lu ∧ (s.withLoad r).du = s.du ∧
    (s.withLoad r).cu = s.cu ∧ (s.withLoad r).draws = s.draws ∧ (s.withLoad r).pending = s.pending := by
  unfold State.withLoad; simp

/-- `brakeStep` changes `bu`, `li` alone. -/
@[simp] theorem brakeStep_frame (r : AxleRec) (s : State) :
    (brakeStep r s).powered = s.powered ∧ (brakeStep r s).now = s.now ∧ (brakeStep r s).sc = s.sc ∧
    (brakeStep r s).sched = s.sched ∧ (brakeStep r s).pc = s.pc ∧ (brakeStep r s).cs = s.cs ∧
    (brakeStep r s).pv = s.pv ∧ (brakeStep r s).pu = s.pu ∧ (brakeStep r s).su = s.su ∧
    (brakeStep r s).ju = s.ju ∧ (brakeStep r s).hu = s.hu ∧ (brakeStep r s).lu = s.lu ∧
    (brakeStep r s).du = s.du ∧ (brakeStep r s).cu = s.cu ∧ (brakeStep r s).draws = s.draws ∧
    (brakeStep r s).pending = s.pending := by
  unfold brakeStep; simp

/-- `brakeUpdate` changes `bu`, `li`, `sched` alone. -/
@[simp] theorem brakeUpdate_frame (s : State) :
    (brakeUpdate s).powered = s.powered ∧ (brakeUpdate s).now = s.now ∧ (brakeUpdate s).sc = s.sc ∧
    (brakeUpdate s).pc = s.pc ∧ (brakeUpdate s).cs = s.cs ∧ (brakeUpdate s).pv = s.pv ∧
    (brakeUpdate s).pu = s.pu ∧ (brakeUpdate s).su = s.su ∧ (brakeUpdate s).ju = s.ju ∧
    (brakeUpdate s).hu = s.hu ∧ (brakeUpdate s).lu = s.lu ∧ (brakeUpdate s).du = s.du ∧
    (brakeUpdate s).cu = s.cu ∧ (brakeUpdate s).draws = s.draws ∧ (brakeUpdate s).pending = s.pending := by
  unfold brakeUpdate; (repeat' split) <;> simp

/-- `writeDemand` changes `pv`, `su`, `hu`, `lu`, `du`, `li` alone. -/
@[simp] theorem writeDemand_frame (r : DemandRec) (s : State) :
    (writeDemand r s).powered = s.powered ∧ (writeDemand r s).now = s.now ∧ (writeDemand r s).sc = s.sc ∧
    (writeDemand r s).sched = s.sched ∧ (writeDemand r s).pc = s.pc ∧ (writeDemand r s).cs = s.cs ∧
    (writeDemand r s).pu = s.pu ∧ (writeDemand r s).ju = s.ju ∧ (writeDemand r s).bu = s.bu ∧
    (writeDemand r s).cu = s.cu ∧ (writeDemand r s).draws = s.draws ∧ (writeDemand r s).pending = s.pending := by
  unfold writeDemand; simp

/-- `cabDrive` changes `cu`, `pv`, `su`, `hu`, `lu`, `du`, `li` alone. -/
@[simp] theorem cabDrive_frame (i : CabInputs) (s : State) :
    (cabDrive i s).powered = s.powered ∧ (cabDrive i s).now = s.now ∧ (cabDrive i s).sc = s.sc ∧
    (cabDrive i s).sched = s.sched ∧ (cabDrive i s).pc = s.pc ∧ (cabDrive i s).cs = s.cs ∧
    (cabDrive i s).pu = s.pu ∧ (cabDrive i s).ju = s.ju ∧ (cabDrive i s).bu = s.bu ∧
    (cabDrive i s).draws = s.draws ∧ (cabDrive i s).pending = s.pending := by
  unfold cabDrive; simp

/-- `telltaleStep` changes `cu` alone. -/
@[simp] theorem telltaleStep_frame (s : State) :
    (telltaleStep s).powered = s.powered ∧ (telltaleStep s).now = s.now ∧ (telltaleStep s).sc = s.sc ∧
    (telltaleStep s).sched = s.sched ∧ (telltaleStep s).pc = s.pc ∧ (telltaleStep s).cs = s.cs ∧
    (telltaleStep s).li = s.li ∧ (telltaleStep s).pv = s.pv ∧ (telltaleStep s).pu = s.pu ∧
    (telltaleStep s).su = s.su ∧ (telltaleStep s).ju = s.ju ∧ (telltaleStep s).bu = s.bu ∧
    (telltaleStep s).hu = s.hu ∧ (telltaleStep s).lu = s.lu ∧ (telltaleStep s).du = s.du ∧
    (telltaleStep s).draws = s.draws ∧ (telltaleStep s).pending = s.pending := by
  unfold telltaleStep; (repeat' split) <;> simp

/-- `cabUpdate` changes `cu`, `pv`, `su`, `hu`, `lu`, `du`, `li`, `sched` alone. -/
@[simp] theorem cabUpdate_frame (i : CabInputs) (s : State) :
    (cabUpdate i s).powered = s.powered ∧ (cabUpdate i s).now = s.now ∧ (cabUpdate i s).sc = s.sc ∧
    (cabUpdate i s).pc = s.pc ∧ (cabUpdate i s).cs = s.cs ∧ (cabUpdate i s).pu = s.pu ∧
    (cabUpdate i s).ju = s.ju ∧ (cabUpdate i s).bu = s.bu ∧ (cabUpdate i s).draws = s.draws ∧
    (cabUpdate i s).pending = s.pending := by
  unfold cabUpdate; (repeat' split) <;> simp

/-- `lampTestEnd` changes `cu` alone. -/
@[simp] theorem lampTestEnd_frame (s : State) :
    (lampTestEnd s).powered = s.powered ∧ (lampTestEnd s).now = s.now ∧ (lampTestEnd s).sc = s.sc ∧
    (lampTestEnd s).sched = s.sched ∧ (lampTestEnd s).pc = s.pc ∧ (lampTestEnd s).cs = s.cs ∧
    (lampTestEnd s).li = s.li ∧ (lampTestEnd s).pv = s.pv ∧ (lampTestEnd s).pu = s.pu ∧
    (lampTestEnd s).su = s.su ∧ (lampTestEnd s).ju = s.ju ∧ (lampTestEnd s).bu = s.bu ∧
    (lampTestEnd s).hu = s.hu ∧ (lampTestEnd s).lu = s.lu ∧ (lampTestEnd s).du = s.du ∧
    (lampTestEnd s).draws = s.draws ∧ (lampTestEnd s).pending = s.pending := by
  unfold lampTestEnd; simp

/-- `holdUpdate` changes `hu`, `li`, `sched` alone. -/
@[simp] theorem holdUpdate_frame (s : State) :
    (holdUpdate s).powered = s.powered ∧ (holdUpdate s).now = s.now ∧ (holdUpdate s).sc = s.sc ∧
    (holdUpdate s).pc = s.pc ∧ (holdUpdate s).cs = s.cs ∧ (holdUpdate s).pv = s.pv ∧ (holdUpdate s).pu = s.pu ∧
    (holdUpdate s).su = s.su ∧ (holdUpdate s).ju = s.ju ∧ (holdUpdate s).bu = s.bu ∧ (holdUpdate s).lu = s.lu ∧
    (holdUpdate s).du = s.du ∧ (holdUpdate s).cu = s.cu ∧ (holdUpdate s).draws = s.draws ∧
    (holdUpdate s).pending = s.pending := by
  unfold holdUpdate; simp

/-- `skirtContact` changes `lu`, `bu`, `li` alone. -/
@[simp] theorem skirtContact_frame (s : State) :
    (skirtContact s).powered = s.powered ∧ (skirtContact s).now = s.now ∧ (skirtContact s).sc = s.sc ∧
    (skirtContact s).sched = s.sched ∧ (skirtContact s).pc = s.pc ∧ (skirtContact s).cs = s.cs ∧
    (skirtContact s).pv = s.pv ∧ (skirtContact s).pu = s.pu ∧ (skirtContact s).su = s.su ∧
    (skirtContact s).ju = s.ju ∧ (skirtContact s).hu = s.hu ∧ (skirtContact s).du = s.du ∧
    (skirtContact s).cu = s.cu ∧ (skirtContact s).draws = s.draws ∧ (skirtContact s).pending = s.pending := by
  unfold skirtContact; simp

/-- `levelStep` changes `lu`, `bu`, `li`, `sched` alone. -/
@[simp] theorem levelStep_frame (k a : Bool) (s : State) :
    (levelStep k a s).powered = s.powered ∧ (levelStep k a s).now = s.now ∧ (levelStep k a s).sc = s.sc ∧
    (levelStep k a s).pc = s.pc ∧ (levelStep k a s).cs = s.cs ∧ (levelStep k a s).pv = s.pv ∧
    (levelStep k a s).pu = s.pu ∧ (levelStep k a s).su = s.su ∧ (levelStep k a s).ju = s.ju ∧
    (levelStep k a s).hu = s.hu ∧ (levelStep k a s).du = s.du ∧ (levelStep k a s).cu = s.cu ∧
    (levelStep k a s).draws = s.draws ∧ (levelStep k a s).pending = s.pending := by
  unfold levelStep; (repeat' split) <;> simp

/-- `levelUpdate` changes `lu`, `bu`, `li`, `sched` alone. -/
@[simp] theorem levelUpdate_frame (k : Bool) (s : State) :
    (levelUpdate k s).powered = s.powered ∧ (levelUpdate k s).now = s.now ∧ (levelUpdate k s).sc = s.sc ∧
    (levelUpdate k s).pc = s.pc ∧ (levelUpdate k s).cs = s.cs ∧ (levelUpdate k s).pv = s.pv ∧
    (levelUpdate k s).pu = s.pu ∧ (levelUpdate k s).su = s.su ∧ (levelUpdate k s).ju = s.ju ∧
    (levelUpdate k s).hu = s.hu ∧ (levelUpdate k s).du = s.du ∧ (levelUpdate k s).cu = s.cu ∧
    (levelUpdate k s).draws = s.draws ∧ (levelUpdate k s).pending = s.pending := by
  unfold levelUpdate; (repeat' split) <;> simp

/-- `closureComplete` changes `lu`, `bu` alone. -/
@[simp] theorem closureComplete_frame (c : Side) (s : State) :
    (closureComplete c s).powered = s.powered ∧ (closureComplete c s).now = s.now ∧
    (closureComplete c s).sc = s.sc ∧ (closureComplete c s).sched = s.sched ∧ (closureComplete c s).pc = s.pc ∧
    (closureComplete c s).cs = s.cs ∧ (closureComplete c s).li = s.li ∧ (closureComplete c s).pv = s.pv ∧
    (closureComplete c s).pu = s.pu ∧ (closureComplete c s).su = s.su ∧ (closureComplete c s).ju = s.ju ∧
    (closureComplete c s).hu = s.hu ∧ (closureComplete c s).du = s.du ∧ (closureComplete c s).cu = s.cu ∧
    (closureComplete c s).draws = s.draws ∧ (closureComplete c s).pending = s.pending := by
  unfold closureComplete; simp

/-- `doorEvent` changes `du`, `li` alone. -/
@[simp] theorem doorEvent_frame (d : Nat) (k : DoorEventKind) (s : State) :
    (doorEvent d k s).powered = s.powered ∧ (doorEvent d k s).now = s.now ∧ (doorEvent d k s).sc = s.sc ∧
    (doorEvent d k s).sched = s.sched ∧ (doorEvent d k s).pc = s.pc ∧ (doorEvent d k s).cs = s.cs ∧
    (doorEvent d k s).pv = s.pv ∧ (doorEvent d k s).pu = s.pu ∧ (doorEvent d k s).su = s.su ∧
    (doorEvent d k s).ju = s.ju ∧ (doorEvent d k s).bu = s.bu ∧ (doorEvent d k s).hu = s.hu ∧
    (doorEvent d k s).lu = s.lu ∧ (doorEvent d k s).cu = s.cu ∧ (doorEvent d k s).draws = s.draws ∧
    (doorEvent d k s).pending = s.pending := by
  unfold doorEvent; (repeat' split) <;> simp

/-- `takeDoorEvent` changes `du`, `li` alone. -/
@[simp] theorem takeDoorEvent_frame (s : State) (e : DoorEvent) :
    (takeDoorEvent s e).powered = s.powered ∧ (takeDoorEvent s e).now = s.now ∧ (takeDoorEvent s e).sc = s.sc ∧
    (takeDoorEvent s e).sched = s.sched ∧ (takeDoorEvent s e).pc = s.pc ∧ (takeDoorEvent s e).cs = s.cs ∧
    (takeDoorEvent s e).pv = s.pv ∧ (takeDoorEvent s e).pu = s.pu ∧ (takeDoorEvent s e).su = s.su ∧
    (takeDoorEvent s e).ju = s.ju ∧ (takeDoorEvent s e).bu = s.bu ∧ (takeDoorEvent s e).hu = s.hu ∧
    (takeDoorEvent s e).lu = s.lu ∧ (takeDoorEvent s e).cu = s.cu ∧ (takeDoorEvent s e).draws = s.draws ∧
    (takeDoorEvent s e).pending = s.pending := by
  unfold takeDoorEvent; simp

/-- `State.emptyDoorQueue` changes `du` alone. -/
@[simp] theorem State.emptyDoorQueue_frame (s : State) :
    s.emptyDoorQueue.powered = s.powered ∧ s.emptyDoorQueue.now = s.now ∧ s.emptyDoorQueue.sc = s.sc ∧
    s.emptyDoorQueue.sched = s.sched ∧ s.emptyDoorQueue.pc = s.pc ∧ s.emptyDoorQueue.cs = s.cs ∧
    s.emptyDoorQueue.li = s.li ∧ s.emptyDoorQueue.pv = s.pv ∧ s.emptyDoorQueue.pu = s.pu ∧
    s.emptyDoorQueue.su = s.su ∧ s.emptyDoorQueue.ju = s.ju ∧ s.emptyDoorQueue.bu = s.bu ∧
    s.emptyDoorQueue.hu = s.hu ∧ s.emptyDoorQueue.lu = s.lu ∧ s.emptyDoorQueue.cu = s.cu ∧
    s.emptyDoorQueue.draws = s.draws ∧ s.emptyDoorQueue.pending = s.pending := by
  unfold State.emptyDoorQueue; simp

/-- A fold of event steps changes `li` and `du` alone. -/
theorem takeDoorEvent_fold (q : List DoorEvent) (s : State) :
    ∃ li du, q.foldl takeDoorEvent s = { s with li := li, du := du } := by
  induction q generalizing s with
  | nil => exact ⟨s.li, s.du, rfl⟩
  | cons e q ih =>
    obtain ⟨li, du, h⟩ := ih (takeDoorEvent s e)
    exact ⟨li, du, by simp [h]⟩

/-- `doorEventSteps` changes `du`, `li` alone. -/
@[simp] theorem doorEventSteps_frame (s : State) :
    (doorEventSteps s).powered = s.powered ∧ (doorEventSteps s).now = s.now ∧ (doorEventSteps s).sc = s.sc ∧
    (doorEventSteps s).sched = s.sched ∧ (doorEventSteps s).pc = s.pc ∧ (doorEventSteps s).cs = s.cs ∧
    (doorEventSteps s).pv = s.pv ∧ (doorEventSteps s).pu = s.pu ∧ (doorEventSteps s).su = s.su ∧
    (doorEventSteps s).ju = s.ju ∧ (doorEventSteps s).bu = s.bu ∧ (doorEventSteps s).hu = s.hu ∧
    (doorEventSteps s).lu = s.lu ∧ (doorEventSteps s).cu = s.cu ∧ (doorEventSteps s).draws = s.draws ∧
    (doorEventSteps s).pending = s.pending := by
  unfold doorEventSteps; obtain ⟨li, du, h⟩ := takeDoorEvent_fold s.du.queue s.emptyDoorQueue; simp [h]

/-- `doorPeriodic` changes `du`, `li` alone. -/
@[simp] theorem doorPeriodic_frame (v : DoorView) (a b : DoorInputs) (s : State) :
    (doorPeriodic v a b s).powered = s.powered ∧ (doorPeriodic v a b s).now = s.now ∧
    (doorPeriodic v a b s).sc = s.sc ∧ (doorPeriodic v a b s).sched = s.sched ∧
    (doorPeriodic v a b s).pc = s.pc ∧ (doorPeriodic v a b s).cs = s.cs ∧ (doorPeriodic v a b s).pv = s.pv ∧
    (doorPeriodic v a b s).pu = s.pu ∧ (doorPeriodic v a b s).su = s.su ∧ (doorPeriodic v a b s).ju = s.ju ∧
    (doorPeriodic v a b s).bu = s.bu ∧ (doorPeriodic v a b s).hu = s.hu ∧ (doorPeriodic v a b s).lu = s.lu ∧
    (doorPeriodic v a b s).cu = s.cu ∧ (doorPeriodic v a b s).draws = s.draws ∧
    (doorPeriodic v a b s).pending = s.pending := by
  unfold doorPeriodic; simp

/-- `doorListening` changes `du` alone. -/
@[simp] theorem doorListening_frame (a b : DoorInputs) (s : State) :
    (doorListening a b s).powered = s.powered ∧ (doorListening a b s).now = s.now ∧
    (doorListening a b s).sc = s.sc ∧ (doorListening a b s).sched = s.sched ∧ (doorListening a b s).pc = s.pc ∧
    (doorListening a b s).cs = s.cs ∧ (doorListening a b s).li = s.li ∧ (doorListening a b s).pv = s.pv ∧
    (doorListening a b s).pu = s.pu ∧ (doorListening a b s).su = s.su ∧ (doorListening a b s).ju = s.ju ∧
    (doorListening a b s).bu = s.bu ∧ (doorListening a b s).hu = s.hu ∧ (doorListening a b s).lu = s.lu ∧
    (doorListening a b s).cu = s.cu ∧ (doorListening a b s).draws = s.draws ∧
    (doorListening a b s).pending = s.pending := by
  unfold doorListening; simp

/-- `doorUpdate` changes `du`, `li`, `pv`, `sched` alone. -/
@[simp] theorem doorUpdate_frame (a b : DoorInputs) (s : State) :
    (doorUpdate a b s).powered = s.powered ∧ (doorUpdate a b s).now = s.now ∧ (doorUpdate a b s).sc = s.sc ∧
    (doorUpdate a b s).pc = s.pc ∧ (doorUpdate a b s).cs = s.cs ∧ (doorUpdate a b s).pu = s.pu ∧
    (doorUpdate a b s).su = s.su ∧ (doorUpdate a b s).ju = s.ju ∧ (doorUpdate a b s).bu = s.bu ∧
    (doorUpdate a b s).hu = s.hu ∧ (doorUpdate a b s).lu = s.lu ∧ (doorUpdate a b s).cu = s.cu ∧
    (doorUpdate a b s).draws = s.draws ∧ (doorUpdate a b s).pending = s.pending := by
  unfold doorUpdate; dsimp only; (repeat' split) <;> simp

/-- `driveStopEnd` changes `du` alone. -/
@[simp] theorem driveStopEnd_frame (d : Nat) (s : State) :
    (driveStopEnd d s).powered = s.powered ∧ (driveStopEnd d s).now = s.now ∧ (driveStopEnd d s).sc = s.sc ∧
    (driveStopEnd d s).sched = s.sched ∧ (driveStopEnd d s).pc = s.pc ∧ (driveStopEnd d s).cs = s.cs ∧
    (driveStopEnd d s).li = s.li ∧ (driveStopEnd d s).pv = s.pv ∧ (driveStopEnd d s).pu = s.pu ∧
    (driveStopEnd d s).su = s.su ∧ (driveStopEnd d s).ju = s.ju ∧ (driveStopEnd d s).bu = s.bu ∧
    (driveStopEnd d s).hu = s.hu ∧ (driveStopEnd d s).lu = s.lu ∧ (driveStopEnd d s).cu = s.cu ∧
    (driveStopEnd d s).draws = s.draws ∧ (driveStopEnd d s).pending = s.pending := by
  unfold driveStopEnd; simp

/-- `useProfile` changes `sc`, `pu`, `lu`, `du` alone. -/
@[simp] theorem useProfile_frame (p : Profile) (s : State) :
    (useProfile p s).powered = s.powered ∧ (useProfile p s).now = s.now ∧ (useProfile p s).sched = s.sched ∧
    (useProfile p s).pc = s.pc ∧ (useProfile p s).cs = s.cs ∧ (useProfile p s).li = s.li ∧
    (useProfile p s).pv = s.pv ∧ (useProfile p s).su = s.su ∧ (useProfile p s).ju = s.ju ∧
    (useProfile p s).bu = s.bu ∧ (useProfile p s).hu = s.hu ∧ (useProfile p s).cu = s.cu ∧
    (useProfile p s).draws = s.draws ∧ (useProfile p s).pending = s.pending := by
  unfold useProfile; simp

/-- `storeImage` changes `sc` alone. -/
@[simp] theorem storeImage_frame (m : List Byte) (s : State) :
    (storeImage m s).powered = s.powered ∧ (storeImage m s).now = s.now ∧ (storeImage m s).sched = s.sched ∧
    (storeImage m s).pc = s.pc ∧ (storeImage m s).cs = s.cs ∧ (storeImage m s).li = s.li ∧
    (storeImage m s).pv = s.pv ∧ (storeImage m s).pu = s.pu ∧ (storeImage m s).su = s.su ∧
    (storeImage m s).ju = s.ju ∧ (storeImage m s).bu = s.bu ∧ (storeImage m s).hu = s.hu ∧
    (storeImage m s).lu = s.lu ∧ (storeImage m s).du = s.du ∧ (storeImage m s).cu = s.cu ∧
    (storeImage m s).draws = s.draws ∧ (storeImage m s).pending = s.pending := by
  unfold storeImage; simp

/-- `useImage` changes `sc`, `pu`, `lu`, `du`, `li` alone. -/
@[simp] theorem useImage_frame (m : List Byte) (s : State) :
    (useImage m s).powered = s.powered ∧ (useImage m s).now = s.now ∧ (useImage m s).sched = s.sched ∧
    (useImage m s).pc = s.pc ∧ (useImage m s).cs = s.cs ∧ (useImage m s).pv = s.pv ∧ (useImage m s).su = s.su ∧
    (useImage m s).ju = s.ju ∧ (useImage m s).bu = s.bu ∧ (useImage m s).hu = s.hu ∧ (useImage m s).cu = s.cu ∧
    (useImage m s).draws = s.draws ∧ (useImage m s).pending = s.pending := by
  unfold useImage; simp

/-- `failProfile` changes `sc`, `sched`, `pc`, `cs`, `li`, `pu`, `su`, `ju`, `bu`, `hu`, `lu`, `du`, `cu` alone. -/
@[simp] theorem failProfile_frame (k : LockLevels) (c : Bool) (s : State) :
    (failProfile k c s).powered = s.powered ∧ (failProfile k c s).now = s.now ∧ (failProfile k c s).pv = s.pv ∧
    (failProfile k c s).draws = s.draws ∧ (failProfile k c s).pending = s.pending := by
  unfold failProfile; simp

/-- `profileLoadComplete` changes `sc`, `sched`, `pc`, `cs`, `li`, `pv`, `pu`, `su`, `ju`, `bu`, `hu`, `lu`, `du`, `cu` alone. -/
@[simp] theorem profileLoadComplete_frame (m : List Byte) (k : LockLevels) (s : State) :
    (profileLoadComplete m k s).powered = s.powered ∧ (profileLoadComplete m k s).now = s.now ∧
    (profileLoadComplete m k s).draws = s.draws ∧ (profileLoadComplete m k s).pending = s.pending := by
  unfold profileLoadComplete; (repeat' split) <;> simp

/-- `leavePowerup` changes `sc`, `sched`, `cs`, `li`, `pv`, `su`, `hu`, `cu` alone. -/
@[simp] theorem leavePowerup_frame (s : State) :
    (leavePowerup s).powered = s.powered ∧ (leavePowerup s).now = s.now ∧ (leavePowerup s).pc = s.pc ∧
    (leavePowerup s).pu = s.pu ∧ (leavePowerup s).ju = s.ju ∧ (leavePowerup s).bu = s.bu ∧
    (leavePowerup s).lu = s.lu ∧ (leavePowerup s).du = s.du ∧ (leavePowerup s).draws = s.draws ∧
    (leavePowerup s).pending = s.pending := by
  unfold leavePowerup; dsimp only; (repeat' split) <;> simp

/-- `supplySettled` changes `sc`, `sched`, `cs`, `li`, `pv`, `su`, `hu`, `cu` alone. -/
@[simp] theorem supplySettled_frame (s : State) :
    (supplySettled s).powered = s.powered ∧ (supplySettled s).now = s.now ∧ (supplySettled s).pc = s.pc ∧
    (supplySettled s).pu = s.pu ∧ (supplySettled s).ju = s.ju ∧ (supplySettled s).bu = s.bu ∧
    (supplySettled s).lu = s.lu ∧ (supplySettled s).du = s.du ∧ (supplySettled s).draws = s.draws ∧
    (supplySettled s).pending = s.pending := by
  unfold supplySettled; dsimp only; (repeat' split) <;> simp

/-- `inertInputHigh` changes `sched`, `li` alone. -/
@[simp] theorem inertInputHigh_frame (s : State) :
    (inertInputHigh s).powered = s.powered ∧ (inertInputHigh s).now = s.now ∧ (inertInputHigh s).sc = s.sc ∧
    (inertInputHigh s).pc = s.pc ∧ (inertInputHigh s).cs = s.cs ∧ (inertInputHigh s).pv = s.pv ∧
    (inertInputHigh s).pu = s.pu ∧ (inertInputHigh s).su = s.su ∧ (inertInputHigh s).ju = s.ju ∧
    (inertInputHigh s).bu = s.bu ∧ (inertInputHigh s).hu = s.hu ∧ (inertInputHigh s).lu = s.lu ∧
    (inertInputHigh s).du = s.du ∧ (inertInputHigh s).cu = s.cu ∧ (inertInputHigh s).draws = s.draws ∧
    (inertInputHigh s).pending = s.pending := by
  unfold inertInputHigh; dsimp only; (repeat' split) <;> simp

/-- `restartInputHigh` changes `sc`, `sched`, `cs`, `li`, `pv`, `su`, `hu`, `cu` alone. -/
@[simp] theorem restartInputHigh_frame (s : State) :
    (restartInputHigh s).powered = s.powered ∧ (restartInputHigh s).now = s.now ∧
    (restartInputHigh s).pc = s.pc ∧ (restartInputHigh s).pu = s.pu ∧ (restartInputHigh s).ju = s.ju ∧
    (restartInputHigh s).bu = s.bu ∧ (restartInputHigh s).lu = s.lu ∧ (restartInputHigh s).du = s.du ∧
    (restartInputHigh s).draws = s.draws ∧ (restartInputHigh s).pending = s.pending := by
  unfold restartInputHigh; dsimp only; (repeat' split) <;> simp

/-- `enterIsolated` changes `sc`, `li` alone. -/
@[simp] theorem enterIsolated_frame (s : State) :
    (enterIsolated s).powered = s.powered ∧ (enterIsolated s).now = s.now ∧ (enterIsolated s).sched = s.sched ∧
    (enterIsolated s).pc = s.pc ∧ (enterIsolated s).cs = s.cs ∧ (enterIsolated s).pv = s.pv ∧
    (enterIsolated s).pu = s.pu ∧ (enterIsolated s).su = s.su ∧ (enterIsolated s).ju = s.ju ∧
    (enterIsolated s).bu = s.bu ∧ (enterIsolated s).hu = s.hu ∧ (enterIsolated s).lu = s.lu ∧
    (enterIsolated s).du = s.du ∧ (enterIsolated s).cu = s.cu ∧ (enterIsolated s).draws = s.draws ∧
    (enterIsolated s).pending = s.pending := by
  unfold enterIsolated; simp

/-- `listenWindowEnd` changes `sc`, `li`, `pu` alone. -/
@[simp] theorem listenWindowEnd_frame (s : State) :
    (listenWindowEnd s).powered = s.powered ∧ (listenWindowEnd s).now = s.now ∧
    (listenWindowEnd s).sched = s.sched ∧ (listenWindowEnd s).pc = s.pc ∧ (listenWindowEnd s).cs = s.cs ∧
    (listenWindowEnd s).pv = s.pv ∧ (listenWindowEnd s).su = s.su ∧ (listenWindowEnd s).ju = s.ju ∧
    (listenWindowEnd s).bu = s.bu ∧ (listenWindowEnd s).hu = s.hu ∧ (listenWindowEnd s).lu = s.lu ∧
    (listenWindowEnd s).du = s.du ∧ (listenWindowEnd s).cu = s.cu ∧ (listenWindowEnd s).draws = s.draws ∧
    (listenWindowEnd s).pending = s.pending := by
  unfold listenWindowEnd; dsimp only; (repeat' split) <;> simp

/-- `restart` changes `sc`, `sched`, `pc`, `cs`, `li`, `pv`, `pu`, `su`, `ju`, `bu`, `hu`, `lu`, `du`, `cu` alone. -/
@[simp] theorem restart_frame (k : LockLevels) (s : State) :
    (restart k s).powered = s.powered ∧ (restart k s).now = s.now ∧ (restart k s).draws = s.draws ∧
    (restart k s).pending = s.pending := by
  unfold restart; (repeat' split) <;> simp

end Sys2Proof.Machine
end

