-- ==== Sys2Proof/Laws/Exec.lean ====
section
/-! SUPPORT. Every command in one shape: its condition, its effect, and what it answers. -/

namespace Sys2Proof.Machine

/-- The condition of a command, read on the state it finds. -/
def readyOf : Instr → State → Bool
  | .powerOn _ _ _ => fun _ => true
  | .restart _ lowFor _ => isRestart lowFor
  | .supplySettled _ => State.settles
  | .restartInputHigh _ => State.inputLow
  | .profileLoadComplete _ _ _ => State.loading
  | .wheelEdge _ _ _ => State.capturesPulses
  | .speedUpdate _ => State.speedDue
  | .zeroSpeedTimeout _ wheel => State.zeroSpeedDue wheel
  | .scanStart _ => State.scanDue
  | .conversionComplete _ _ => State.converting
  | .frameReceived _ _ => State.lineWorks
  | .frameGapTimeout _ => State.gapDue
  | .idleWaitComplete _ => State.idleWaitDue
  | .frameBegin _ kind => State.mayBegin kind
  | .transmitComplete _ => State.sentWhole
  | .statusRequest _ => State.statusDue
  | .noticeInterval _ => State.noticeDue
  | .statusExpiry _ peer => State.statusExpired peer
  | .demandExpiry _ => State.demandExpired
  | .staleEpisodeBegin _ => State.episodeDue
  | .steeringUpdate _ => State.steeringDue
  | .lockReleaseTimeEnd _ => State.lockReleaseDue
  | .centringSettleEnd _ => State.centringSettleDue
  | .trackingTimeEnd _ => State.trackingDue
  | .jointUpdate _ => State.jointDue
  | .riskClearTimeEnd _ => State.riskClearDue
  | .damperLowTimeEnd _ => State.damperLowDue
  | .damperGoodTimeEnd _ => State.damperGoodDue
  | .brakeUpdate _ => State.brakeDue
  | .cabUpdate _ _ => State.cabDue
  | .lampTestEnd _ => State.lampDue
  | .holdUpdate _ => State.holdDue
  | .confirmTimeEnd _ => State.confirmDue
  | .applyFaultTimeEnd _ => State.applyFaultDue
  | .releaseTimeEnd _ => State.releaseDue
  | .levelUpdate _ _ => State.levelDue
  | .pulseLimitEnd _ corner _ => State.pulseLimitDue corner
  | .closureComplete _ corner => State.closureDue corner
  | .settleTimeEnd _ corner _ => State.settleDue corner
  | .skirtContact _ => State.skirtDue
  | .doorEvent _ door _ => State.takesDoorEvent door
  | .doorUpdate _ _ _ => State.doorDue
  | .driveStopEnd _ door => State.driveStopDue door
  | .dwellTimeEnd _ door _ _ => State.dwellDue door
  | .doorDeadlinePassed _ door _ _ => State.doorDeadlineDue door
  | .listenWindowEnd _ => State.windowOver
  | .peerSilenceTimeout _ => State.peersSilent
  | .characterReceived _ _ _ => State.always
  | .supplyLoss _ => State.always

/-- The effect of a command on the state it finds, its condition met. -/
def effectOf : Instr → State → State
  | .powerOn strap restartHigh locks => powerOn strap restartHigh locks
  | .restart _ _ locks => restart locks
  | .supplySettled _ => supplySettled
  | .restartInputHigh _ => restartInputHigh
  | .profileLoadComplete _ memory locks => profileLoadComplete memory locks
  | .wheelEdge _ wheel direction => wheelEdge wheel direction
  | .speedUpdate _ => speedUpdate
  | .zeroSpeedTimeout _ _ => speedUpdate
  | .scanStart _ => scanStart
  | .conversionComplete _ input => conversionComplete input
  | .frameReceived _ locks => frameReceived locks
  | .frameGapTimeout _ => frameGapTimeout
  | .idleWaitComplete _ => idleWaitComplete
  | .frameBegin _ kind => frameBegin kind
  | .transmitComplete _ => transmitComplete
  | .statusRequest _ => statusRequest
  | .noticeInterval _ => noticeInterval
  | .statusExpiry _ peer => statusExpiry peer
  | .demandExpiry _ => demandExpiry
  | .staleEpisodeBegin _ => staleEpisodeBegin
  | .steeringUpdate _ => steeringUpdate
  | .lockReleaseTimeEnd _ => steeringUpdate
  | .centringSettleEnd _ => steeringUpdate
  | .trackingTimeEnd _ => steeringUpdate
  | .jointUpdate _ => jointUpdate
  | .riskClearTimeEnd _ => jointUpdate
  | .damperLowTimeEnd _ => jointUpdate
  | .damperGoodTimeEnd _ => jointUpdate
  | .brakeUpdate _ => brakeUpdate
  | .cabUpdate _ inputs => cabUpdate inputs
  | .lampTestEnd _ => lampTestEnd
  | .holdUpdate _ => holdUpdate
  | .confirmTimeEnd _ => holdUpdate
  | .applyFaultTimeEnd _ => holdUpdate
  | .releaseTimeEnd _ => holdUpdate
  | .levelUpdate _ skirt => levelUpdate skirt
  | .pulseLimitEnd _ _ skirt => levelUpdate skirt
  | .closureComplete _ corner => closureComplete corner
  | .settleTimeEnd _ _ skirt => levelUpdate skirt
  | .skirtContact _ => skirtContact
  | .doorEvent _ door kind => doorEvent door kind
  | .doorUpdate _ first second => doorUpdate first second
  | .driveStopEnd _ door => driveStopEnd door
  | .dwellTimeEnd _ _ first second => doorUpdate first second
  | .doorDeadlinePassed _ _ first second => doorUpdate first second
  | .listenWindowEnd _ => listenWindowEnd
  | .peerSilenceTimeout _ => enterIsolated
  | .characterReceived _ char instant => characterReceived char instant
  | .supplyLoss _ => supplyLoss

/-- Every command but POWER_ON has its effect if the part is powered and its condition holds, and otherwise changes local time
alone. -/
theorem exec_eq (c : Instr) (s : State) (h : ∀ n b l, c ≠ .powerOn n b l) :
    exec c s = .next (if (s.elapse (elapsedOf c)).powered && readyOf c (s.elapse (elapsedOf c)) then
      effectOf c (s.elapse (elapsedOf c)) else s.elapse (elapsedOf c)) := by
  cases c
  case powerOn n b l => exact absurd rfl (h n b l)
  all_goals rfl

/-- What a command can answer: the state POWER_ON begins with, the passage of time alone, or its effect. -/
theorem exec_cases {c : Instr} {s t : State} (h : exec c s = .next t) :
    (∃ n b l, c = .powerOn n b l ∧ t = powerOn n b l s) ∨ t = s.elapse (elapsedOf c) ∨
      (s.powered = true ∧ readyOf c (s.elapse (elapsedOf c)) = true ∧ t = effectOf c (s.elapse (elapsedOf c))) := by
  by_cases hp : ∃ n b l, c = .powerOn n b l
  · obtain ⟨n, b, l, rfl⟩ := hp
    injection h with h
    exact .inl ⟨n, b, l, rfl, h.symm⟩
  · have hn : ∀ n b l, c ≠ .powerOn n b l := fun n b l e => hp ⟨n, b, l, e⟩
    rw [exec_eq c s hn] at h
    injection h with h
    split at h
    · rename_i hr
      simp only [Bool.and_eq_true, State.elapse_frame] at hr
      exact .inr (.inr ⟨hr.1, hr.2, h.symm⟩)
    · exact .inr (.inl h.symm)

/-- A step is a command of the queue's front on the state with the queue's rest, or a microsecond on an empty queue. -/
theorem step_cases {s t : State} (h : step s = .next t) :
    (s.pending = [] ∧ t = s.elapse 1) ∨
      ∃ c rest, s.pending = c :: rest ∧ exec c { s with pending := rest } = .next t := by
  unfold step at h
  split at h
  · rename_i hp
    injection h with h
    exact .inl ⟨hp, h.symm⟩
  · rename_i c rest hp
    exact .inr ⟨c, rest, hp, h⟩

end Sys2Proof.Machine
end

