-- ==== Sys2Proof/WellFormed.lean ====
section
/-! DEFINITION. Which commands are well formed: the operand ranges that the types of `Instr` leave open. -/

namespace Sys2Proof

/-- A door number of the profile's door table: 1 to 8 (R186). -/
def isDoorNumber (d : Nat) : Bool := decide (1 ≤ d) && decide (d ≤ 8)

/-- The operand checks: the profile memory holds 256 bytes (R186); a pulse taken as a restart is at
least 10 µs long (R185); a door number lies in 1 to 8 (R186). Every other operand's type admits
exactly the values the spec gives it. -/
def Instr.wellFormed : Instr → Bool
  | .profileLoadComplete _ memory _ => memory.length == 256
  | .restart _ lowFor _ => decide (10 ≤ lowFor)
  | .doorEvent _ door _ => isDoorNumber door
  | .driveStopEnd _ door => isDoorNumber door
  | .dwellTimeEnd _ door _ _ => isDoorNumber door
  | .doorDeadlinePassed _ door _ _ => isDoorNumber door
  | .powerOn _ _ _ => true
  | .supplySettled _ => true
  | .restartInputHigh _ => true
  | .wheelEdge _ _ _ => true
  | .speedUpdate _ => true
  | .zeroSpeedTimeout _ _ => true
  | .scanStart _ => true
  | .conversionComplete _ _ => true
  | .frameReceived _ _ => true
  | .frameGapTimeout _ => true
  | .idleWaitComplete _ => true
  | .frameBegin _ _ => true
  | .transmitComplete _ => true
  | .statusRequest _ => true
  | .noticeInterval _ => true
  | .statusExpiry _ _ => true
  | .demandExpiry _ => true
  | .staleEpisodeBegin _ => true
  | .steeringUpdate _ => true
  | .lockReleaseTimeEnd _ => true
  | .centringSettleEnd _ => true
  | .trackingTimeEnd _ => true
  | .jointUpdate _ => true
  | .riskClearTimeEnd _ => true
  | .damperLowTimeEnd _ => true
  | .damperGoodTimeEnd _ => true
  | .brakeUpdate _ => true
  | .cabUpdate _ _ => true
  | .lampTestEnd _ => true
  | .holdUpdate _ => true
  | .confirmTimeEnd _ => true
  | .applyFaultTimeEnd _ => true
  | .releaseTimeEnd _ => true
  | .levelUpdate _ _ => true
  | .pulseLimitEnd _ _ _ => true
  | .closureComplete _ _ => true
  | .settleTimeEnd _ _ _ => true
  | .skirtContact _ => true
  | .doorUpdate _ _ _ => true
  | .listenWindowEnd _ => true
  | .peerSilenceTimeout _ => true
  | .characterReceived _ _ _ => true
  | .supplyLoss _ => true

end Sys2Proof
end

