-- ==== Sys2Proof/Laws/PerInstr.lean ====
section
/-! SUPPORT. Statements made for each command. `DoorOperands`: a well-formed command that names a door names one of the
profile's door table (R186), and every other command names none. -/

namespace Sys2Proof.Laws.DoorOperands

/-- The door a command names. -/
def doorOf : Instr → Option Nat
  | .powerOn _ _ _ => none
  | .restart _ _ _ => none
  | .supplySettled _ => none
  | .restartInputHigh _ => none
  | .profileLoadComplete _ _ _ => none
  | .wheelEdge _ _ _ => none
  | .speedUpdate _ => none
  | .zeroSpeedTimeout _ _ => none
  | .scanStart _ => none
  | .conversionComplete _ _ => none
  | .frameReceived _ _ => none
  | .frameGapTimeout _ => none
  | .idleWaitComplete _ => none
  | .frameBegin _ _ => none
  | .transmitComplete _ => none
  | .statusRequest _ => none
  | .noticeInterval _ => none
  | .statusExpiry _ _ => none
  | .demandExpiry _ => none
  | .staleEpisodeBegin _ => none
  | .steeringUpdate _ => none
  | .lockReleaseTimeEnd _ => none
  | .centringSettleEnd _ => none
  | .trackingTimeEnd _ => none
  | .jointUpdate _ => none
  | .riskClearTimeEnd _ => none
  | .damperLowTimeEnd _ => none
  | .damperGoodTimeEnd _ => none
  | .brakeUpdate _ => none
  | .cabUpdate _ _ => none
  | .lampTestEnd _ => none
  | .holdUpdate _ => none
  | .confirmTimeEnd _ => none
  | .applyFaultTimeEnd _ => none
  | .releaseTimeEnd _ => none
  | .levelUpdate _ _ => none
  | .pulseLimitEnd _ _ _ => none
  | .closureComplete _ _ => none
  | .settleTimeEnd _ _ _ => none
  | .skirtContact _ => none
  | .doorEvent _ door _ => some door
  | .doorUpdate _ _ _ => none
  | .driveStopEnd _ door => some door
  | .dwellTimeEnd _ door _ _ => some door
  | .doorDeadlinePassed _ door _ _ => some door
  | .listenWindowEnd _ => none
  | .peerSilenceTimeout _ => none
  | .characterReceived _ _ _ => none
  | .supplyLoss _ => none

/-- A well-formed command names no door, or one with a number from 1 to 8. -/
def Statement (i : Instr) : Prop := i.wellFormed = true → ∀ d, doorOf i = some d → 1 ≤ d ∧ d ≤ 8

/-- A command that names no door satisfies the statement. -/
theorem of_none {i : Instr} (h : doorOf i = none) : Statement i := by
  intro _ d hd
  rw [h] at hd
  cases hd

/-- A door number that passes the check lies in 1 to 8. -/
theorem isDoorNumber_range {d : Nat} (h : isDoorNumber d = true) : 1 ≤ d ∧ d ≤ 8 := by
  simpa [isDoorNumber] using h

theorem powerOn (strap : Fin 8) (restartHigh : Bool) (locks : LockLevels) :
    Statement (.powerOn strap restartHigh locks) := of_none rfl
theorem restart (dt : Nat) (lowFor : Nat) (locks : LockLevels) : Statement (.restart dt lowFor locks) := of_none rfl
theorem supplySettled (dt : Nat) : Statement (.supplySettled dt) := of_none rfl
theorem restartInputHigh (dt : Nat) : Statement (.restartInputHigh dt) := of_none rfl
theorem profileLoadComplete (dt : Nat) (memory : List Byte) (locks : LockLevels) :
    Statement (.profileLoadComplete dt memory locks) := of_none rfl
theorem wheelEdge (dt : Nat) (wheel : Side) (direction : Direction) :
    Statement (.wheelEdge dt wheel direction) := of_none rfl
theorem speedUpdate (dt : Nat) : Statement (.speedUpdate dt) := of_none rfl
theorem zeroSpeedTimeout (dt : Nat) (wheel : Side) : Statement (.zeroSpeedTimeout dt wheel) := of_none rfl
theorem scanStart (dt : Nat) : Statement (.scanStart dt) := of_none rfl
theorem conversionComplete (dt : Nat) (input : BitVec 10) : Statement (.conversionComplete dt input) := of_none rfl
theorem frameReceived (dt : Nat) (locks : LockLevels) : Statement (.frameReceived dt locks) := of_none rfl
theorem frameGapTimeout (dt : Nat) : Statement (.frameGapTimeout dt) := of_none rfl
theorem idleWaitComplete (dt : Nat) : Statement (.idleWaitComplete dt) := of_none rfl
theorem frameBegin (dt : Nat) (kind : FrameKind) : Statement (.frameBegin dt kind) := of_none rfl
theorem transmitComplete (dt : Nat) : Statement (.transmitComplete dt) := of_none rfl
theorem statusRequest (dt : Nat) : Statement (.statusRequest dt) := of_none rfl
theorem noticeInterval (dt : Nat) : Statement (.noticeInterval dt) := of_none rfl
theorem statusExpiry (dt : Nat) (peer : Fin 8) : Statement (.statusExpiry dt peer) := of_none rfl
theorem demandExpiry (dt : Nat) : Statement (.demandExpiry dt) := of_none rfl
theorem staleEpisodeBegin (dt : Nat) : Statement (.staleEpisodeBegin dt) := of_none rfl
theorem steeringUpdate (dt : Nat) : Statement (.steeringUpdate dt) := of_none rfl
theorem lockReleaseTimeEnd (dt : Nat) : Statement (.lockReleaseTimeEnd dt) := of_none rfl
theorem centringSettleEnd (dt : Nat) : Statement (.centringSettleEnd dt) := of_none rfl
theorem trackingTimeEnd (dt : Nat) : Statement (.trackingTimeEnd dt) := of_none rfl
theorem jointUpdate (dt : Nat) : Statement (.jointUpdate dt) := of_none rfl
theorem riskClearTimeEnd (dt : Nat) : Statement (.riskClearTimeEnd dt) := of_none rfl
theorem damperLowTimeEnd (dt : Nat) : Statement (.damperLowTimeEnd dt) := of_none rfl
theorem damperGoodTimeEnd (dt : Nat) : Statement (.damperGoodTimeEnd dt) := of_none rfl
theorem brakeUpdate (dt : Nat) : Statement (.brakeUpdate dt) := of_none rfl
theorem cabUpdate (dt : Nat) (inputs : CabInputs) : Statement (.cabUpdate dt inputs) := of_none rfl
theorem lampTestEnd (dt : Nat) : Statement (.lampTestEnd dt) := of_none rfl
theorem holdUpdate (dt : Nat) : Statement (.holdUpdate dt) := of_none rfl
theorem confirmTimeEnd (dt : Nat) : Statement (.confirmTimeEnd dt) := of_none rfl
theorem applyFaultTimeEnd (dt : Nat) : Statement (.applyFaultTimeEnd dt) := of_none rfl
theorem releaseTimeEnd (dt : Nat) : Statement (.releaseTimeEnd dt) := of_none rfl
theorem levelUpdate (dt : Nat) (skirt : Bool) : Statement (.levelUpdate dt skirt) := of_none rfl
theorem pulseLimitEnd (dt : Nat) (corner : Side) (skirt : Bool) : Statement (.pulseLimitEnd dt corner skirt) := of_none rfl
theorem closureComplete (dt : Nat) (corner : Side) : Statement (.closureComplete dt corner) := of_none rfl
theorem settleTimeEnd (dt : Nat) (corner : Side) (skirt : Bool) : Statement (.settleTimeEnd dt corner skirt) := of_none rfl
theorem skirtContact (dt : Nat) : Statement (.skirtContact dt) := of_none rfl
theorem doorEvent (dt : Nat) (door : Nat) (kind : DoorEventKind) : Statement (.doorEvent dt door kind) := by
  intro h d hd
  cases hd
  exact isDoorNumber_range h
theorem doorUpdate (dt : Nat) (first : DoorInputs) (second : DoorInputs) :
    Statement (.doorUpdate dt first second) := of_none rfl
theorem driveStopEnd (dt : Nat) (door : Nat) : Statement (.driveStopEnd dt door) := by
  intro h d hd
  cases hd
  exact isDoorNumber_range h
theorem dwellTimeEnd (dt : Nat) (door : Nat) (first : DoorInputs) (second : DoorInputs) : Statement (.dwellTimeEnd dt door first second) := by
  intro h d hd
  cases hd
  exact isDoorNumber_range h
theorem doorDeadlinePassed (dt : Nat) (door : Nat) (first : DoorInputs) (second : DoorInputs) : Statement (.doorDeadlinePassed dt door first second) := by
  intro h d hd
  cases hd
  exact isDoorNumber_range h
theorem listenWindowEnd (dt : Nat) : Statement (.listenWindowEnd dt) := of_none rfl
theorem peerSilenceTimeout (dt : Nat) : Statement (.peerSilenceTimeout dt) := of_none rfl
theorem characterReceived (dt : Nat) (char : Byte) (instant : CharacterInstant) :
    Statement (.characterReceived dt char instant) := of_none rfl
theorem supplyLoss (dt : Nat) : Statement (.supplyLoss dt) := of_none rfl

end Sys2Proof.Laws.DoorOperands
end

