-- ==== Sys2Proof/Tests/Slice0.lean ====
section
/-! SUPPORT. Tests. The expected results come from the spec's worked examples or from its rules by hand. The second half shows,
for each statement that has hypotheses, a state and operands that meet them together. -/

namespace Sys2Proof.Tests

open Sys2Proof.Machine

-- One theorem at a time: each evaluates in the kernel, and a hundred at once ask for more memory than a check has.
set_option Elab.async false

/-! ### States to test on -/

/-- An AXLE record: pitch 32 mm, the load and brake numbers of the worked example of chapter 06. -/
def axle (spacing : Nat) : AxleRec := ⟨some spacing, 256, 3200, 900, 55, 32⟩

/-- The JOINT record of the worked example of chapter 05. -/
def joint1 : JointRec := ⟨some 8300, 240, 1100, 800, 5461, 5461, 8192, 16667, 20, 70, 4, 38⟩

/-- A bus of a CAB, the leading axle, two following axles and a joint; station 2 owns doors 1 and 2. -/
def bus : Profile :=
  { Profile.unloaded with
    stations := #v[.cab, .axle 1 (axle 0), .axle 2 (axle 5900), .joint 1 joint1, .axle 3 (axle 12400), .absent, .absent, .absent]
    doors := [⟨1, 2, .left⟩, ⟨2, 2, .right⟩] }

/-- A channel in GOOD with a value. -/
def good (v : Int) : Channel := ⟨512, some v, .good, 0, 0⟩

/-- A door of station 2 in a state. -/
def door (number : Nat) (side : Side) (state : DoorState) : Door :=
  ⟨number, side, state, 0, false, none, none, none, false, false, false, false, .off⟩

/-- Station `n` in a station state at local time 1,000,000, every schedule due, standing since 0. -/
def station (n : Fin 8) (st : StationState) : State :=
  { State.reset with
    now := 1000000
    sc := { Control.reset with station := st, strap := n, prof := bus, check := .passed, settled := true }
    sched := ⟨some 0, some 0, some 0, some 0, some 0, some 0, some 0, some 0, some 0, some 0, some 0⟩
    cs := ⟨Vector.replicate 8 (good 320), none⟩
    pv := { PeerView.reset with lastMoving := some 0 }
    lu := LevelUnit.reset 320 false false
    du := ⟨[door 1 .left .locked, door 2 .right .locked], [], ⟨true, true⟩⟩ }

/-- A DEMAND record. -/
def demand (request : HoldRequest) (kneel : KneelRequest) (release : List Nat) : DemandRec :=
  ⟨0, 250, .both, request, kneel, 0, release, []⟩

/-- The state with a FRESH DEMAND record, accepted now, the hold requested since 0. -/
def hears (r : DemandRec) (s : State) : State :=
  { s with pv := { s.pv with demand := ⟨some r, s.now, .fresh⟩, holdStart := some 0, actedClear := some 0 } }

/-- A STATUS record of an axle at a speed. -/
def axleStatus (speed : Nat) (st : StationState) : StatusRec :=
  ⟨st, 0, ⟨false, false, false, false⟩, 0,
    .axle ⟨speed, .forward, false, false, false, 0, .held, .ride, .leading, 0, []⟩⟩

/-- The state with a FRESH STATUS record of a peer, accepted now. -/
def sees (n : Fin 8) (r : StatusRec) (s : State) : State :=
  { s with pv := { s.pv with peers := s.pv.peers.set n ⟨some r, s.now, .fresh, some r.signature⟩ } }

/-- The state with another value on a channel. -/
def reads (i : Fin 8) (c : Channel) (s : State) : State := { s with cs := { s.cs with channels := s.cs.channels.set i c } }

/-- A path queue around axle 2 (the worked example of chapter 03). -/
def points : List QueuePoint :=
  [⟨993648, 4400, 6200, 3, false⟩, ⟨993904, 5000, 6200, 3, false⟩, ⟨994160, 5600, 6200, 3, false⟩,
   ⟨994416, 6150, 6200, 3, false⟩, ⟨1000000, 9000, 6200, 3, false⟩]

/-- Axle 2, ACTIVE, seeing the leading axle drive forward at 5,000 mm/s, with that queue. -/
def follower : State :=
  let s := sees 1 (axleStatus 5000 .active) (station 2 .active)
  { s with pu := { s.pu with queue := points, queueEpoch := some 3 }, lu := { s.lu with level := .ride } }

/-- Axle 2 held at a stop, its hold HELD and the body at ride height. -/
def stopped : State :=
  let s := hears (demand .hold .none []) (station 2 .active)
  { s with hu := { s.hu with state := .held }, lu := { s.lu with level := .ride } }

/-- The level unit with both corners in a phase. -/
def withPhase (p : CornerPhase) (s : State) : State :=
  { s with lu := { s.lu with left := { s.lu.left with phase := p }, right := { s.lu.right with phase := p } } }

/-- A local time held or not, from a number: a quantifier over local times themselves would be decided over all 2^32. -/
def at_ (n : Option Nat) : Option Time := n.map (BitVec.ofNat 32)

/-- The next state a command answers. -/
def after (c : Instr) (s : State) : State :=
  match exec c s with
  | .next t => t
  | .fault _ => s
  | .refused _ => s

/-! ### WellFormed: one ill-formed command for each check -/

theorem test_short_memory_refused : (Instr.profileLoadComplete 0 [0] ⟨true, true⟩).wellFormed = false := by decide
theorem test_short_pulse_refused : (Instr.restart 0 9 ⟨true, true⟩).wellFormed = false := by decide
theorem test_door_zero_refused : (Instr.doorEvent 0 0 .button).wellFormed = false := by decide
theorem test_door_nine_refused : (Instr.driveStopEnd 0 9).wellFormed = false := by decide
theorem test_dwell_door_refused : (Instr.dwellTimeEnd 0 9 ⟨false, false, false, false, false, false, false⟩
    ⟨false, false, false, false, false, false, false⟩).wellFormed = false := by decide
theorem test_deadline_door_refused : (Instr.doorDeadlinePassed 0 0 ⟨false, false, false, false, false, false, false⟩
    ⟨false, false, false, false, false, false, false⟩).wellFormed = false := by decide
theorem test_door_eight_accepted : (Instr.doorEvent 0 8 .beam).wellFormed = true := by decide

/-! ### Chapter 01 -/

/-- Worked example "speed at 45 km/h": 12,500 and 12,444 mm/s give 12,472, and one entry is left in the queue. -/
theorem test_speed_45 :
    let s := { station 1 .active with
      pc := { PulseCapture.reset with
        left := ⟨[⟨990000, .forward⟩, ⟨992560, .forward⟩, ⟨995120, .forward⟩], 0⟩
        right := ⟨[⟨990000, .forward⟩, ⟨992560, .forward⟩, ⟨995143, .forward⟩], 0⟩ } }
    let t := after (.speedUpdate 0) s
    (t.pc.left, t.pc.right.speed, t.pc.axleSpeed) = (⟨[⟨995120, .forward⟩], 12500⟩, 12444, 12472) := by decide +kernel

/-- Worked example "a stop": at an age of 400,500 µs the queue is emptied and the speed is 0. -/
theorem test_zero_speed :
    let s := { station 1 .active with pc := { PulseCapture.reset with left := ⟨[⟨599500, .forward⟩], 3047⟩ } }
    (after (.zeroSpeedTimeout 0 .left) s).pc.left = ⟨[], 0⟩ := by decide +kernel

/-- Worked example "correcting readings": six rows of the table. -/
theorem test_corrected :
    (corrected ⟨192, 250⟩ (0, 1000) 611, corrected ⟨300, 600⟩ (0, 1200) 401, corrected ⟨128, 0⟩ (-6000, 6000) 515,
      corrected ⟨128, 0⟩ (-6000, 6000) 509, corrected ⟨300, 0⟩ (0, 1200) 401, plausible 1012) =
    (324, 470, 2, -2, 0, false) := by decide

/-- Worked example "a channel that flickers": the eleven completions. -/
theorem test_flicker :
    ([1010, 1012, 600, 600, 600, 8, 600, 600, 600, 600, 600].foldl (fun c k => Channel.complete c k 99) (good 40)) =
      ⟨600, some 99, .good, 0, 0⟩ := by decide

/-- R15: a trial that stands at 512 settles to the level of the input, whatever it is. -/
theorem test_trial_settles (input : BitVec 10) : (⟨1, 512⟩ : Conversion).code input = input :=
  Conversion.code_select 1 input

/-! ### Chapters 02 and 03 -/

/-- R25: the leading edge of a start bit ends the quiet time and makes the line busy; the character's stop bit ends that. -/
theorem test_start_bit :
    let s := { station 2 .active with li := { LineInterface.reset with mode := .taking, quiet := some 0, lastChar := 0 } }
    let t := after (.characterReceived 0 0 .startBit) s
    (t.li.quiet, t.li.startBit, (after (.characterReceived 20 0xC3 (.stopBit true)) t).li.frame,
      (after (.characterReceived 20 0xC3 (.stopBit true)) t).li.startBit) = (none, some 1000000, some [], none) := by decide +kernel

/-- The check value of the CRC with this generator and start value, by hand from R24's definition. -/
theorem test_crc : crc16 [0x31, 0x32, 0x33, 0x34, 0x35, 0x36, 0x37, 0x38, 0x39] = 0x29B1 := by decide +kernel

/-- A STATUS frame of the CAB, its fields written out by R26: kind 1, sender 0, length 6, ACTIVE, signature, latches, sequence,
role part 0. -/
theorem test_status_frame :
    (frameChars .status 0 (StatusRec.body ⟨.active, 0xABCD, ⟨true, false, false, true⟩, 7, .none⟩)).take 9 =
      [1, 0, 6, 1, 0xAB, 0xCD, 9, 7, 0] := by decide +kernel

/-- A PATH frame's body by R26: the epoch, the distance and the two headings high byte first, the direction. -/
theorem test_path_body :
    PathPoint.body ⟨3, 1000000, 6842, 6205⟩ = [3, 0x00, 0x0F, 0x42, 0x40, 0x1A, 0xBA, 0x18, 0x3D, 0] := by decide +kernel

/-- Worked example "the integrator and one point": one scan adds 357,914 units, the point has T 6,842. -/
theorem test_integrator :
    (yawTurn 1500 2000, ({ station 1 .active with
        pc := { PulseCapture.reset with pathOdo := 1000000 }
        pu := { PathUnit.reset 250 with acc := 406681114, epoch := 3 } }).pointAt 350) =
      (357914, ⟨3, 1000000, 6842, 6205⟩) := by decide +kernel

/-- Worked example "intake, lookup and trim at axle 2": T(s) is 5,459 and the trim removes 993,648. -/
theorem test_lookup :
    (lookup 994100 points, (trim (some 994100) points).head?.map (·.distance)) = (.value 5459, some 993904) := by decide +kernel

/-! ### Chapters 04 and 05 -/

/-- Worked case 1: the command goes from −390 to −407 cdeg. -/
theorem test_follow :
    let t := after (.steeringUpdate 0) { follower with su := { SteeringUnit.reset false with state := .following, command := -390 } }
    (t.su.state, t.su.command, t.su.setPoint, t.su.lockValve) = (.following, -407, -407, true) := by decide +kernel

/-- Worked cases 2 and 3: the gain of 230 gives −253 cdeg, the speed limit at 11,111 mm/s is 900, and the step is 20. -/
theorem test_steer_numbers :
    (gainSteer 230 (rawSteer 4187 4700), speedLimit Profile.unloaded (some 11111), rateStep 20 (-1500) (-900)) =
      (-253, 900, -1480) := by decide +kernel

/-- Worked example "one update at joint 1": 1,193 BAU expected, e is 307, the damping is 38 %. -/
theorem test_joint_update :
    (expectedAngle 240 5459 4187, deviation 1500 1193, dampingCommand joint1 (some 5000) ⟨some 1500, .tracking, 307⟩ false) =
      (1193, 307, 38) := by decide +kernel

/-- Worked example "a slide under braking": RISK at e = 1,180; at 950 the clear condition fails, at 780 it holds. -/
theorem test_risk_levels :
    (riskSet joint1 (some 6000) ⟨some 0, .tracking, 1180⟩, riskClears joint1 ⟨some 0, .tracking, 950⟩,
      riskClears joint1 ⟨some 0, .tracking, 780⟩) = (true, false, true) := by decide

/-! ### Chapter 06 -/

/-- Worked example "load, demand and stretch": 10,900 kg and 30,900 kg, 495 kPa, 568 kPa with the stretch of 38. -/
theorem test_load_and_demand :
    (springLoad (axle 0) 410 390, (axle 0).fullScaleLoad, baseDemand (axle 0) 10900 250, roundDiv (495 * 294) 256) =
      (10900, 30900, 495, 568) := by decide +kernel

/-- Worked example "one wheel on ice": the slips and targets from 0 to 35 ms. -/
theorem test_ice :
    ([7900, 6700, 6500, 6900, 7400, 7600, 7700, 7750].foldl (fun w v => BrakeWheel.update w 495 (some (slipOf 8000 v)))
      ⟨.apply, 495, 495, 0⟩) = ⟨.reapply, 385, 385, 0⟩ := by decide +kernel

/-- Worked example "the pedal vote": chosen travel and brake demand of four rows. -/
theorem test_pedal_vote :
    [pedalVote (some 41) (some 44), pedalVote (some 40) (some 55), pedalVote none (some 44), pedalVote none none] =
      [(some 42, .both), (some 55, .both), (some 44, .one), (none, .fallback)] ∧
    [some 42, some 98, some 5, none].map (cabDemand Profile.unloaded false) = [311, 783, 0, 150] := by decide

/-! ### Chapters 07 to 09 -/

/-- Worked example "a stop on a grade": HOLD at STANDSTILL takes OFF to APPLYING. -/
theorem test_hold_applies :
    let t := after (.holdUpdate 0) { stopped with hu := { stopped.hu with state := .off, valve := true } }
    (t.hu.state, t.hu.valve, t.hu.applyStart) = (.applying, false, some 1000000) := by decide +kernel

/-- Worked example "a stop on a grade": NONE read with the doors open takes HELD to RELEASE_PENDING. -/
theorem test_hold_pends :
    let s := hears (demand .none .none []) stopped
    (after (.holdUpdate 0) s).hu.state = .releasePending := by decide +kernel

/-- Worked example "a kneel to the right": the phase, the target of 250, the error of 71 and the open exhaust. -/
theorem test_kneel_begins :
    let s := reads 2 (good 400) (reads 3 (good 400) (reads 1 (good 321) (hears (demand .hold .right []) stopped)))
    let t := after (.levelUpdate 0 false) s
    (t.lu.kneel, t.lu.right.target, t.lu.right.travel, t.lu.right.exhaustValve, t.lu.right.pulseHeight, t.bu.frozen.isSome) =
      (.kneeling, 250, some 71, true, some 321, true) := by decide +kernel

/-- Worked example "the skirt touches": the exhaust closes with a closure end 40 ms on, the abort pends, KNEEL_ABORTED is raised. -/
theorem test_skirt :
    let s := { stopped with lu := { stopped.lu with
      kneel := .kneeling, sides := .right, right := { stopped.lu.right with phase := .exhausting, exhaustValve := true } } }
    let t := after (.skirtContact 20000) s
    (t.lu.right.phase, t.lu.right.closureEnd, t.lu.right.exhaustValve, t.lu.abort, t.lu.kneelLatch, t.li.summary) =
      (.closing, some 1060000, false, true, true, [.kneelAborted]) := by decide +kernel

/-- Worked example "door 3 at a stop": the button is taken and the door opens in the same update, deadline 4,000 ms on. -/
theorem test_door_opens :
    let s := hears (demand .hold .none [1]) stopped
    let s := { s with du := { s.du with
      doors := [door 1 .left .released], queue := [⟨999000, 1, .button⟩] } }
    let quiet : DoorInputs := ⟨false, true, false, true, false, false, false⟩
    let t := after (.doorUpdate 0 quiet quiet) s
    (t.du.doors.map fun d => (d.state, d.drive, d.deadline)) = [(.opening, .opening, some 5000000)] := by decide +kernel

/-- Worked example "door 3 at a stop": an EDGE in CLOSING stops the drive for 150 ms and counts an obstruction. -/
theorem test_door_reverses :
    let s := { stopped with du := { stopped.du with
      doors := [{ door 1 .left .closing with drive := .closing }], queue := [⟨999000, 1, .edge⟩] } }
    let i : DoorInputs := ⟨false, true, false, false, false, false, false⟩
    let t := after (.doorUpdate 0 i i) s
    (t.du.doors.map fun d => (d.state, d.drive, d.driveStop, d.deadline, d.count)) =
      [(.reversing, .off, some 1150000, some 5150000, 1)] ∧ t.li.summary = [.doorObstructed] := by decide +kernel

/-- Worked example "three obstructions": the latch is set on the way to OPEN at a count of 3. -/
theorem test_third_obstruction :
    let d := { door 2 .right .reversing with count := 3 }
    let e := d.reversingStep stopped.doorView ⟨false, true, true, false, false, false, false⟩
    (e.state, e.latch, e.count) = (.opened, true, 3) := by decide +kernel

/-! ### Chapter 10 -/

/-- R185: after power-on the supply settles and the station loads its profile; a short load fails its CRC and goes to INERT,
where the hold unit of a station of no known role holds its reset values (log entry 28). -/
theorem test_boot :
    let t := after (.supplySettled 1000) (after (.powerOn 3 true ⟨true, true⟩) State.reset)
    let u := after (.profileLoadComplete 5000 [] ⟨true, true⟩) t
    (t.sc.station, u.sc.station, u.sc.check, u.hu.valve, u.hu.state, u.li.pending.status) =
      (.profileLoad, .inert, .failed, false, .applying, true) := by decide +kernel

/-! ### The statements' hypotheses: the machine and station control

In each theorem a conjunct stands for one clause of the statement it is named after, at a boundary where the clause has one. -/

/-- Every command answers a next state. -/
theorem exec_after (c : Instr) (s : State) : exec c s = .next (after c s) := by cases c <;> rfl

theorem witness_StepTakesFront : State.reset.pending = [] := rfl

theorem witness_EveryCommandCompletes :
    State.reset.powered = true ∧ ∀ n b l, Instr.speedUpdate 5 ≠ .powerOn n b l := ⟨rfl, by intros; nofun⟩

theorem witness_SupplyLossStopsEverything :
    follower.powered = true ∧
    ({ follower with powered := false } : State).powered = false ∧ ∀ n b l, Instr.speedUpdate 5 ≠ .powerOn n b l :=
  ⟨rfl, rfl, by intros; nofun⟩

/-- The hypotheses of UnitsAfterReset, of RestartKeepsAndClears and of the last part of HoldReleasesOnly. -/
theorem witness_Restart : stopped.powered = true ∧ stopped.sc.station ≠ .inert ∧ 10 ≤ 10 := by decide +kernel

/-- An INERT station whose restart input stands low, with a duplicate flag. -/
def inertLow (duplicate : Bool) : State :=
  let s := station 2 .inert
  { s with sc := { s.sc with restartLow := true, duplicate := duplicate } }

theorem witness_RestartInInert : ∀ b : Bool,
    (inertLow b).powered = true ∧ (inertLow b).sc.station = .inert ∧ 10 ≤ 10 ∧ (inertLow b).sc.restartLow = true ∧
      (inertLow b).sc.duplicate = b := by decide +kernel

/-- A station in POWERUP with its flags and check result. -/
def waking (settled low : Bool) (check : CheckResult) : State :=
  let s := station 2 .powerup
  { s with sc := { s.sc with settled := settled, restartLow := low, check := check } }

theorem witness_LeavingPowerup :
    (∀ a b : Bool, ∀ c ∈ [CheckResult.none, .passed],
      (waking a b c).powered = true ∧ (waking a b c).sc.station = .powerup ∧ (waking a b c).sc.settled = a ∧
        (waking a b c).sc.restartLow = b ∧ (waking a b c).sc.check = c ∧ (waking a b c).own.isAxle = true) ∧
    (let s := { station 0 .powerup with sc := { (station 0 .powerup).sc with restartLow := true } };
      s.powered = true ∧ s.sc.station = .powerup ∧ s.sc.settled = true ∧ s.sc.restartLow = true ∧ s.sc.check = .passed ∧
        s.own.isAxle = false) := by decide +kernel

/-- A stretch of zero bytes. -/
def zeros : List Byte := List.replicate 41 0

/-- The profile memory of a bus that is a CAB at station 0 alone. -/
def cabImage : List Byte := [1, 0, 0, 0, 0, 0, 0, 0] ++ zeros ++ zeros ++ zeros ++ zeros ++ zeros ++ zeros ++ [0x0C, 0xDA]

theorem test_image_length : (Instr.profileLoadComplete 0 cabImage ⟨true, true⟩).wellFormed = true := by decide +kernel

/-- The CRC of the image, taken in pieces. -/
theorem cabImage_crc : crc16 (cabImage.take 254) = 0x0CDA := by
  have h : cabImage.take 254 = [1, 0, 0, 0, 0, 0, 0, 0] ++ zeros ++ zeros ++ zeros ++ zeros ++ zeros ++ zeros := by decide +kernel
  have h0 : [1, 0, 0, 0, 0, 0, 0, 0].foldl crcByte 0xFFFF = 0x76ED := by decide +kernel
  have h1 : zeros.foldl crcByte 0x76ED = 0x1AF6 := by decide +kernel
  have h2 : zeros.foldl crcByte 0x1AF6 = 0xE06F := by decide +kernel
  have h3 : zeros.foldl crcByte 0xE06F = 0xFDDE := by decide +kernel
  have h4 : zeros.foldl crcByte 0xFDDE = 0x8074 := by decide +kernel
  have h5 : zeros.foldl crcByte 0x8074 = 0x5320 := by decide +kernel
  have h6 : zeros.foldl crcByte 0x5320 = 0x0CDA := by decide +kernel
  simp only [crc16, h, List.foldl_append, h0, h1, h2, h3, h4, h5, h6]

theorem witness_ProfileLoadPasses :
    (station 0 .profileLoad).powered = true ∧ (station 0 .profileLoad).sc.station = .profileLoad ∧
      crcHolds cabImage = true ∧ (readImage cabImage).checksHold (station 0 .profileLoad).sc.strap = true := by
  refine ⟨rfl, rfl, ?_, by decide +kernel⟩
  rw [crcHolds, cabImage_crc]
  decide +kernel

theorem witness_ProfileLoadFails :
    (station 5 .profileLoad).powered = true ∧ (station 5 .profileLoad).sc.station = .profileLoad ∧
      crcHolds [] = false ∧ crcHolds cabImage = true ∧
      (readImage cabImage).checksHold (station 5 .profileLoad).sc.strap = false ∧
      ((readImage cabImage).station 5).isAxle = false := by
  refine ⟨rfl, rfl, by decide +kernel, ?_, by decide +kernel, by decide +kernel⟩
  rw [crcHolds, cabImage_crc]
  decide +kernel

/-- The profile memory that lists a following axle at station 5 and no leading axle, which fails check 4. -/
def axleImage : List Byte := [0, 0, 0, 0, 0, 0x22, 0, 0] ++ zeros ++ zeros ++ zeros ++ zeros ++ zeros ++ zeros ++ [0x4A, 0xEF]

/-- The clause of ProfileLoadFails about an axle station. -/
theorem witness_axle_load_fails :
    crcHolds axleImage = true ∧ (readImage axleImage).checksHold (station 5 .profileLoad).sc.strap = false ∧
      ((readImage axleImage).station 5).isAxle = true := by
  refine ⟨?_, by decide +kernel, by decide +kernel⟩
  have h : axleImage.take 254 = [0, 0, 0, 0, 0, 0x22, 0, 0] ++ zeros ++ zeros ++ zeros ++ zeros ++ zeros ++ zeros := by decide +kernel
  have h0 : [0, 0, 0, 0, 0, 0x22, 0, 0].foldl crcByte 0xFFFF = 0xD998 := by decide +kernel
  have h1 : zeros.foldl crcByte 0xD998 = 0x54C2 := by decide +kernel
  have h2 : zeros.foldl crcByte 0x54C2 = 0xBE24 := by decide +kernel
  have h3 : zeros.foldl crcByte 0xBE24 = 0x02AD := by decide +kernel
  have h4 : zeros.foldl crcByte 0x02AD = 0x4B1D := by decide +kernel
  have h5 : zeros.foldl crcByte 0x4B1D = 0xD916 := by decide +kernel
  have h6 : zeros.foldl crcByte 0xD916 = 0x4AEF := by decide +kernel
  have c : crc16 (axleImage.take 254) = 0x4AEF := by simp only [crc16, h, List.foldl_append, h0, h1, h2, h3, h4, h5, h6]
  rw [crcHolds, c]
  decide +kernel

theorem witness_ProfileRanges :
    bus.axleCal.length = 8 ∧ bus.jointCal.length = 2 ∧ bus.cabCal.length = 2 ∧
      bus.clamped.axleCal[7]?.isSome = true ∧ bus.clamped.jointCal[1]?.isSome = true ∧ bus.clamped.cabCal[1]?.isSome = true ∧
      bus.station 0 = .cab ∧ bus.station 1 = .axle 1 (axle 0) ∧ bus.station 2 = .axle 2 (axle 5900) ∧
      bus.station 3 = .joint 1 joint1 ∧ bus.station 5 = .absent ∧ (axle 5900).spacing = some 5900 ∧
      bus.divisor ≠ 2 ∧ bus.noticeCode ≠ 3 ∧ bus.capacityCode ≠ 3 := by decide +kernel

/-- R188: a field in range stays, one outside goes to the nearer bound, an odd path step to the next lower even one. -/
theorem test_clamps :
    let q := Profile.clamped { bus with pathStep := 251, lagLimit := 499, v1 := 30001, v2 := 30500, kneelFloor := 900 }
    (q.pathStep, q.lagLimit, q.v1, q.v2, q.rideHeight, q.kneelFloor) = (250, 500, 30000, 31000, 320, 320) := by decide +kernel

/-- Station `n` at the end of its listen window. -/
def listened (n : Fin 8) (heard : Bool) : State :=
  let s := station n .listening
  { s with sc := { s.sc with listenStart := some 800000, heard := heard } }

theorem witness_ListenEndAndSilence :
    (∀ n ∈ [(1 : Fin 8), 2], ∀ b : Bool, let s := listened n b
      s.powered = true ∧ s.sc.station = .listening ∧ lasted s.sc.listenStart 200000 (s.elapse 0).now = true ∧ s.sc.heard = b ∧
        (s.elapse 0).own.isLeading = decide (n = 1)) ∧
    (let s := { station 2 .active with sc := { (station 2 .active).sc with lastPeer := some 900000 } };
      s.powered = true ∧ s.sc.station = .active ∧ s.sc.lastPeer = some 900000 ∧
        100000 < ((s.elapse 1).now - 900000).toNat) := by decide +kernel

/-! ### Pulse capture and the converter scan -/

/-- Station `n` with edges in its left queue. -/
def edges (n : Fin 8) (l : List Snapshot) (d : Direction) : State :=
  let s := station n .active
  { s with pc := { s.pc with left := ⟨l, 7⟩, direction := d } }

theorem witness_WheelEdges :
    (∀ d ∈ [Direction.forward, .reverse], ∀ k ∈ [7, 8], let s := edges 1 (List.replicate k ⟨999000, .forward⟩) d
      s.powered = true ∧ s.runs = true ∧ s.own = .axle 1 (axle 0) ∧ (s.pc.wheel .left).queue.length = k ∧ s.pc.direction = d) ∧
    (∀ l ∈ [LayingState.idle, .laying, .reversing, .headingLost], ∀ d ∈ [Direction.forward, .reverse],
      let s := { edges 1 [] d with pu := { PathUnit.reset 250 with laying := l } }
      s.powered = true ∧ s.runs = true ∧ s.own = .axle 1 (axle 0) ∧ s.pc.direction = d ∧ s.pu.laying = l ∧
        ((after (.wheelEdge 0 .left .forward) s).pc.pathOdo - BitVec.ofNat 32 s.sc.prof.pathStep).toInt < 0 ∧
        ((after (.wheelEdge 0 .left .forward) s).pc.pathOdo - s.pu.nextStep).toInt < 0) ∧
    (∀ b : Bool, ∀ n ∈ [2084, 2085], let odo : Dist := BitVec.ofNat 32 n
      let s := { edges 2 [] .forward with pu := { PathUnit.reset 250 with lagRef := some 100, lagStands := b } }
      let s := { s with pc := { s.pc with ownOdo := odo } }
      s.powered = true ∧ s.runs = true ∧ s.own = .axle 2 (axle 5900) ∧ 2 ≠ 1 ∧ s.pu.lagStands = b ∧ s.pu.lagRef = some 100 ∧
        (s.sc.prof.lagLimit < ((after (.wheelEdge 0 .left .forward) s).pc.ownOdo - 100).toNat ↔ n = 2085)) := by
  decide +kernel

/-- The leading axle with a path step just crossed by the next edge. -/
def laying (c : Channel) : State :=
  let s := reads 6 c (station 1 .active)
  { s with pu := { s.pu with laying := .laying, nextStep := 16 } }

theorem witness_PathPointLaid :
    (∀ c ∈ [good 2500, ⟨0, none, .failed, 10, 0⟩], let s := laying c
      s.powered = true ∧ s.runs = true ∧ s.own = .axle 1 (axle 0) ∧ s.pu.laying = .laying ∧ s.pc.direction = .forward ∧
        0 ≤ ((s.pc.pathOdo + BitVec.ofNat 32 ((axle 0).pitch / 2)) - s.pu.nextStep).toInt) ∧
    ((laying (good 2500)).channel 6).reading = some 2500 ∧
    ((laying ⟨0, none, .failed, 10, 0⟩).channel 6).reading = none := by decide +kernel

/-- The leading axle with a conversion of channel 7 in flight. -/
def converting (c : Channel) : State :=
  let s := reads 7 c (station 1 .active)
  { s with cs := { s.cs with conv := some ⟨7, 512⟩ } }

/-- The yaw clauses of PathPointLaid: a completion that leaves the channel GOOD, HOLDING with and without a value, or FAILED, in
each laying state, with and without a previous stamp and in both directions. -/
theorem witness_yaw :
    ∀ l ∈ [LayingState.idle, .laying, .reversing, .headingLost], ∀ n ∈ [none, some 999999],
      ∀ d ∈ [Direction.forward, .reverse],
      let p := at_ n
      let with_ := fun c : Channel => ({ converting c with
        pu := { PathUnit.reset 250 with laying := l, prevYaw := p }, pc := { PulseCapture.reset with direction := d } } : State)
      let s := with_ (good 0)
      s.powered = true ∧ s.runs = true ∧ s.own = .axle 1 (axle 0) ∧ s.cs.conv = some ⟨7, 512⟩ ∧ s.pu.laying = l ∧
        s.pu.prevYaw = p ∧ s.pc.direction = d ∧
        ((after (.conversionComplete 0 512) s).channel 7).goodReading = some 0 ∧
        ((after (.conversionComplete 0 8) s).channel 7).reading = some 0 ∧
        ((after (.conversionComplete 0 8) s).channel 7).goodReading = none ∧
        ((after (.conversionComplete 0 8) (with_ ⟨0, none, .good, 0, 0⟩)).channel 7).reading = none ∧
        ((after (.conversionComplete 0 8) (with_ ⟨0, none, .good, 0, 0⟩)).channel 7).condition = .holding ∧
        ((after (.conversionComplete 0 8) (with_ ⟨0, some 0, .holding, 9, 0⟩)).channel 7).condition = .failed := by
  decide +kernel

/-- The hypotheses of SpeedUpdateForms and of ZeroSpeedTimesOut. -/
theorem witness_SpeedUpdateForms :
    (∀ l ∈ [[], [⟨599999, .forward⟩], [⟨600000, .forward⟩], [⟨600000, .forward⟩, ⟨600000, .forward⟩],
        [⟨600000, .forward⟩, ⟨600001, .forward⟩]], let s := edges 1 l .forward
      s.powered = true ∧ s.runs = true ∧ s.own = .axle 1 (axle 0) ∧ passed s.sched.speed (s.elapse 0).now = true ∧
        (s.pc.wheel .left).queue = l) ∧
    400000 < ((1000000 : Time) - 599999).toNat ∧ ((1000000 : Time) - 600000).toNat ≤ 400000 ∧
    0 < ((600001 : Time) - 600000).toNat ∧ ((600000 : Time) - 600000).toNat = 0 := by decide +kernel

theorem witness_ConverterScan :
    (let s := station 1 .active;
      s.powered = true ∧ s.runs = true ∧ s.own ≠ .absent ∧ passed s.sched.scan (s.elapse 0).now = true) ∧
    (∀ x ∈ [Condition.good, .holding, .failed], ∀ h ∈ [8, 9], ∀ g ∈ [3, 4], let s := converting ⟨0, none, x, h, g⟩
      s.powered = true ∧ s.runs = true ∧ s.cs.conv = some ⟨7, 512⟩ ∧ s.cs.channels[(7 : Fin 8)] = ⟨0, none, x, h, g⟩) ∧
    (∀ c ∈ [(16 : BitVec 10), 1007], 16 ≤ c.toNat ∧ c.toNat ≤ 1007) ∧
    (∀ c ∈ [(15 : BitVec 10), 1008], ¬(16 ≤ c.toNat ∧ c.toNat ≤ 1007)) := by decide +kernel

/-! ### The chassis line -/

/-- Station 2 with its line interface taking characters, inside a frame or not, the last character ended at 999,940. -/
def onLine (frame : Option (List Byte)) : State :=
  let s := station 2 .active
  { s with li := { s.li with mode := .taking, frame := frame, lastChar := 999940, quiet := some 999880 } }

/-- The same with a character arriving, its start bit seen 20 µs ago. -/
def arriving (frame : Option (List Byte)) : State :=
  let s := onLine frame
  { s with li := { s.li with startBit := some 999980, quiet := none } }

/-- The same in the wait for idle line. -/
def waitingLine (startBit : Option Time) : State :=
  let s := onLine none
  { s with li := { s.li with mode := .waiting 999960, startBit := startBit } }

theorem witness_LineCharacters :
    (∀ n ∈ [none, some 999980], let b := at_ n
      let s := waitingLine b
      s.powered = true ∧ s.lineWorks = true ∧ s.li.mode = .waiting 999960 ∧ s.li.startBit = b) ∧
    ({ waitingLine none with li := LineInterface.reset }).li.mode = .off ∧
    (let s := { onLine none with li := { (onLine none).li with sending := some ⟨.status, [], 0⟩ } };
      s.powered = true ∧ s.lineWorks = true ∧ s.li.mode = .taking ∧ s.li.sending ≠ none) ∧
    (let s := onLine (some []);
      s.powered = true ∧ s.lineWorks = true ∧ s.li.mode = .taking ∧ s.li.sending = none ∧ s.li.startBit = none ∧
        20 * s.sc.prof.bitTime < ((s.elapse 0).now - s.li.lastChar).toNat ∧
        ¬20 * s.sc.prof.bitTime < (({ s with now := 999980 } : State).now - s.li.lastChar).toNat) ∧
    (∀ f ∈ [none, some [], some [1, 0], some [4, 0, 2], some [4, 0, 0, 9]], let s := arriving f
      s.powered = true ∧ s.lineWorks = true ∧ s.li.mode = .taking ∧ s.li.sending = none ∧ s.li.frame = f ∧
        s.li.startBit ≠ none) ∧
    ([4, 0, 0, 9] : List Byte).length + 1 = 5 + byteAt [4, 0, 0, 9] 2 ∧
    ([4, 0, 2] : List Byte).length + 1 < 5 + byteAt [4, 0, 2] 2 ∧ ([1, 0] : List Byte).length = 2 ∧
    25 < (26 : Byte).toNat ∧ (25 : Byte).toNat ≤ 25 := by decide +kernel

/-- The same outside a frame, with the line at the active level after a bad stop bit. -/
def heldLine (mode : ReceiveMode) : State :=
  let s := onLine none
  { s with li := { s.li with mode := mode, quiet := none, lineActive := true } }

/-- The clauses of LineCharacters, LineTimes and FrameBegins for a line at the active level, and a station that does not receive. -/
theorem witness_line_active :
    (∀ m ∈ [ReceiveMode.off, .waiting 999900, .taking], let s := heldLine m
      s.powered = true ∧ s.lineWorks = true ∧ s.li.lineActive = true ∧ s.li.mode = m ∧ s.li.startBit = none ∧
        s.li.frame = none ∧ s.li.sending = none) ∧
    (station 2 .powerup).lineWorks = false ∧ (onLine none).li.lineActive = false := by decide +kernel

/-- R25: after a bad stop bit the line is busy however long it stands at the active level, so that the STATUS slot, 120 µs into the
quiet time, comes 120 µs after its return to the idle level. -/
theorem test_bad_stop_bit :
    let s := arriving (some [1])
    let s := { s with li := { s.li with pending := ⟨true, false, false, false⟩ } }
    let t := after (.characterReceived 0 0 (.stopBit false)) s
    let u := after (.characterReceived 50 0 .lineIdle) t
    (t.li.frame, t.li.quiet, t.li.lineActive, (after (.frameBegin 120 .status) t).li.sending) = (none, none, true, none) ∧
      (u.li.quiet, u.li.lineActive) = (some 1000050, false) ∧
      (after (.frameBegin 119 .status) u).li.sending = none ∧
      (after (.frameBegin 120 .status) u).li.sending.isSome = true := by decide +kernel

/-- R25: the wait for 20 bit times (40 µs) counts idle line only, also of a line held active from before the entry to LISTENING. -/
theorem test_idle_wait_on_active_line :
    let s := after (.characterReceived 0 0 (.stopBit false)) (station 2 .powerup)
    let s := { s with sc := { s.sc with station := .listening } }
    let s := s.startIdleWait
    let t := after (.characterReceived 50 0 .lineIdle) s
    (after (.idleWaitComplete 50) s).li.mode = .waiting 1000000 ∧ (after (.idleWaitComplete 39) t).li.mode = .waiting 1000050 ∧
      (after (.idleWaitComplete 40) t).li.mode = .taking := by decide +kernel

theorem witness_LineTimes :
    (let s := arriving (some []);
      s.powered = true ∧ s.lineWorks = true ∧ s.li.startBit ≠ none) ∧
    (let s := onLine (some []);
      s.powered = true ∧ s.lineWorks = true ∧ s.li.startBit = none ∧ s.li.frame ≠ none ∧
        20 * s.sc.prof.bitTime < ((s.elapse 0).now - s.li.lastChar).toNat) ∧
    (let s := waitingLine none;
      s.powered = true ∧ s.lineWorks = true ∧ s.li.startBit = none ∧ s.li.mode = .waiting 999960 ∧
        20 * s.sc.prof.bitTime ≤ ((s.elapse 0).now - 999960).toNat) ∧
    (let f : Sending := ⟨.notice, List.replicate 8 0, 999840⟩;
      let s := { onLine none with li := { (onLine none).li with sending := some f } };
      s.powered = true ∧ s.lineWorks = true ∧ s.li.sending = some f ∧
        f.chars.length * 10 * s.sc.prof.bitTime ≤ ((s.elapse 0).now - f.start).toNat) := by decide +kernel

/-- Station 2 with a frame of each kind pending and the start of its STATUS slot, 120 µs into the quiet time. -/
def pendingAll : State :=
  let s := onLine none
  { s with li := { s.li with pending := ⟨true, true, true, true⟩, summary := [.linkLoss] } }

/-- The hypotheses of FrameBegins for STATUS and for NOTICE, whose slot is 312 µs into the quiet time. -/
theorem witness_FrameBegins :
    pendingAll.powered = true ∧ (pendingAll.elapse 0).mayBegin .status = true ∧
      (pendingAll.elapse 192).mayBegin .notice = true ∧ (arriving none).powered = true ∧ (arriving none).li.startBit ≠ none := by
  decide +kernel

theorem witness_FramesBeginInTheirSlots :
    exec (.frameBegin 0 .status) pendingAll = .next (after (.frameBegin 0 .status) pendingAll) ∧
      pendingAll.li.sending = none ∧ (after (.frameBegin 0 .status) pendingAll).li.sending ≠ none :=
  ⟨exec_after _ _, rfl, by decide +kernel⟩

theorem witness_PeriodicRequests : let s := station 2 .active
    s.powered = true ∧ s.lineWorks = true ∧ s.runs = true ∧ passed s.sched.status (s.elapse 0).now = true ∧
      passed s.sched.notice (s.elapse 0).now = true := by decide +kernel

/-- Station 2 in a station state with a complete frame waiting for its checks. -/
def received (st : StationState) (chars : List Byte) : State :=
  let s := station 2 st
  { s with li := { s.li with mode := .taking, complete := some ⟨chars, 999990⟩ } }

/-- A frame that fails a check: the CRC, the kind, the sender absent, the own number. -/
def badCrc : List Byte := [1, 0, 0, 0, 0]
def badKind : List Byte := [9, 0, 0] ++ wordBytes (crc16 [9, 0, 0])
def fromAbsent : List Byte := frameChars .notice 7 [1, 1]
def fromOwn : List Byte := frameChars .notice 2 [1, 1]
/-- Frames with a body shorter than its kind requires, of no station number, of a kind its sender may not send, and with a kind
of 25 in a NOTICE. -/
def tooShort : List Byte := frameChars .notice 1 [2, 1]
def fromEight : List Byte := [4, 8, 2, 1, 1] ++ wordBytes (crc16 [4, 8, 2, 1, 1])
def demandOfTwo : List Byte := frameChars .demand 1 (demand .none .none []).body
def noSuchEvent : List Byte := frameChars .notice 1 [1, 25]
/-- A NOTICE of station 2 that carries SLIP_ACTIVE. -/
def slipNotice : List Byte := frameChars .notice 2 (noticeBody [.slipActive])

theorem witness_FrameFates :
    (let s := received .inert badCrc;
      s.powered = true ∧ s.li.complete = some ⟨badCrc, 999990⟩ ∧ s.sc.station = .inert) ∧
    (let s := received .active badCrc;
      s.powered = true ∧ s.li.complete = some ⟨badCrc, 999990⟩ ∧ s.runs = true ∧ judge s.sc.prof s.sc.strap badCrc = .discarded) ∧
    judge bus 2 badKind = .malformed ∧ judge bus 2 fromAbsent = .unlisted ∧ judge bus 2 fromOwn = .duplicate ∧
    (byteAt badKind 0 = 9 ∧ byteAt fromEight 1 = 8 ∧ byteAt tooShort 0 = kindCode .notice ∧ lengthOk .notice [2, 1] = false ∧
      lengthOk .notice [1, 25] = true ∧ bus.station 7 = .absent ∧ (bus.station 1).isLeading = true ∧
      frameOf .notice (bus.station 1) [1, 25] = none ∧ (frameOf .notice (bus.station 1) [1, 1]).isSome = true) ∧
    (judge bus 2 tooShort = .discarded ∧ judge bus 2 fromEight = .malformed ∧ judge bus 2 demandOfTwo = .malformed ∧
      judge bus 2 noSuchEvent = .malformed) ∧
    (∀ st ∈ [StationState.active, .listening], let s := received st fromOwn
      s.powered = true ∧ s.runs = true ∧ s.li.complete = some ⟨fromOwn, 999990⟩ ∧ s.sc.station = st ∧ s.own.isAxle = true) ∧
    (let s := { station 0 .active with li := { LineInterface.reset with complete := some ⟨slipNotice, 999990⟩ } };
      s.powered = true ∧ s.runs = true ∧ s.own = .cab ∧
        judge s.sc.prof s.sc.strap slipNotice = .accepted 2 (.notice [.slipActive]) ∧
        EventKind.slipActive.group = .brake) := by decide +kernel

/-- A STATUS of the leading axle, a DEMAND of station 0 and a PATH point of the leading axle. -/
def leadStatus : StatusRec := ⟨.listening, 9, ⟨false, false, false, false⟩, 0,
  .axle ⟨0, .forward, false, false, false, 0, .applying, .ride, .leading, 0, []⟩⟩
def somePoint : PathPoint := ⟨3, 1000248, 6200, 6200⟩

/-- The stamp clauses of StatusAccepted at the CAB, which has no speed of its own: the first known speed, a speed above 0 and
a speed of 0 after it, and a STATUS that leaves no speed known. -/
theorem witness_motion_stamp :
    let s := station 0 .active
    (s.elapse 0).knownSpeeds = [] ∧ (∀ v ∈ [0, 5], (sees 1 (axleStatus v .active) s).knownSpeeds = [v]) ∧
      (sees 1 (axleStatus 5 .inert) s).knownSpeeds = [] ∧ (axleStatus 5 .active).speed? = some 5 ∧
      (axleStatus 0 .active).speed? = some 0 ∧ (axleStatus 5 .inert).speed? = none := by decide +kernel

theorem witness_StatusAccepted :
    let s := { received .isolated (frameChars .status 1 leadStatus.body) with
      sc := { (station 2 .isolated).sc with station := .isolated } }
    s.powered = true ∧ s.runs = true ∧ s.li.complete = some ⟨frameChars .status 1 leadStatus.body, 999990⟩ ∧
      judge s.sc.prof s.sc.strap (frameChars .status 1 leadStatus.body) = .accepted 1 (.status leadStatus) ∧
      leadStatus.signature ≠ s.sc.signature ∧ s.pv.peers[(1 : Fin 8)].lastSignature ≠ some leadStatus.signature ∧
      s.own.isFollowing = true ∧ s.sc.prof.leading = some 1 ∧ leadStatus.station = .listening := by decide +kernel

/-- The queue clauses of StatusAccepted: a leading axle that shows REVERSE, one that shows FORWARD, and another axle. -/
theorem witness_queue_kept :
    (∀ d ∈ [Direction.forward, .reverse], ∀ n ∈ [(1 : Fin 8), 4],
      let r : StatusRec := ⟨.active, 0, ⟨false, false, false, false⟩, 0,
        .axle ⟨5, d, false, false, false, 0, .off, .ride, .leading, 0, []⟩⟩
      let s := received .active (frameChars .status n r.body);
      s.powered = true ∧ s.runs = true ∧ s.li.complete = some ⟨frameChars .status n r.body, 999990⟩ ∧
        judge s.sc.prof s.sc.strap (frameChars .status n r.body) = .accepted n (.status r) ∧ s.own.isFollowing = true ∧
        (s.sc.prof.leading = some n ↔ n = 1) ∧ r.station = .active) := by decide +kernel

/-- Station 2 receiving a DEMAND, with a DEMAND held before and a clear count acted on. -/
def demanded (r before : DemandRec) (acted : Option (BitVec 8)) : State :=
  let s := received .active (frameChars .demand 0 r.body)
  { s with pv := { s.pv with demand := ⟨some before, 999000, .fresh⟩, actedClear := acted } }

theorem witness_DemandAccepted :
    (∀ r ∈ [demand .none .none [], demand .hold .right [1, 2]], ∀ b ∈ [demand .none .none [], demand .hold .none []],
      ∀ a ∈ [none, some 0, some 1], let s := demanded r b a
      s.powered = true ∧ s.runs = true ∧ s.li.complete = some ⟨frameChars .demand 0 r.body, 999990⟩ ∧
        s.pv.demand.freshness = .fresh ∧ s.pv.demand.record.map (·.hold) = some b.hold ∧ s.pv.actedClear = a ∧
        r.clear = 0 ∧ s.du.doors.length ≤ 2) ∧
    (∀ r ∈ [demand .none .none [], demand .hold .right [1, 2]],
      judge bus 2 (frameChars .demand 0 r.body) = .accepted 0 (.demand r)) := by decide +kernel

/-- Station 2 hearing a clear event with its first door as given, the second in FAULT too, and its hold in APPLYING. -/
def cleared (d : Door) (latch : Bool) : State :=
  let s := demanded (demand .hold .none []) (demand .hold .none []) (some 1)
  { s with
    du := { s.du with doors := [d, door 2 .right .fault] }
    hu := { s.hu with latch := latch, applyStart := some 0, confirmStart := some 999000 } }

/-- The clear event of DemandAccepted: a door in FAULT or with a latch, and the hold latch set or not. -/
theorem witness_clear_event :
    ∀ b l : Bool, ∀ st ∈ [DoorState.fault, .opened], let d := { door 1 .left st with latch := l, count := 3 }
      let s := cleared d b;
      s.powered = true ∧ s.runs = true ∧ s.li.complete = some ⟨frameChars .demand 0 (demand .hold .none []).body, 999990⟩ ∧
        s.pv.actedClear = some 1 ∧ s.hu.state = .applying ∧ s.hu.latch = b ∧ s.du.doors[0]? = some d := by decide +kernel

/-- R180: the lock switch of each door decides; R142: the apply timing begins again at the clear. -/
theorem test_clear_event :
    ∀ first second : Bool, let t := after (.frameReceived 7 ⟨first, second⟩) (cleared (door 1 .left .fault) true)
      let goes := fun b : Bool => if b then (DoorState.locked, (none : Option Time)) else (.locking, some 1500007)
      (t.du.doors.map fun d => (d.state, d.deadline)) = [goes first, goes second] ∧
        t.hu.applyStart = some 1000007 ∧ t.hu.confirmStart = some 999000 := by decide +kernel

/-- Station 2 receiving a PATH point with a queue. -/
def pathed (p : PathPoint) (q : List QueuePoint) : State :=
  let s := received .active (frameChars .path 1 p.body)
  { s with pu := { s.pu with queue := q, queueEpoch := some 3 } }

theorem witness_PathIntakeCases :
    (∀ p ∈ [⟨3, 1000000, 0, 0⟩, somePoint, ⟨4, 256, 0, 0⟩], ∀ q ∈ [[], points], let s := pathed p q
      s.powered = true ∧ s.runs = true ∧ s.own.isFollowing = true ∧
        s.li.complete = some ⟨frameChars .path 1 p.body, 999990⟩ ∧ s.pu.queue = q ∧ s.pu.queueEpoch = some 3) ∧
    (∀ p ∈ [⟨3, 1000000, 0, 0⟩, somePoint, ⟨4, 256, 0, 0⟩],
      judge bus 2 (frameChars .path 1 p.body) = .accepted 1 (.path p)) ∧
    points.getLast?.map (·.distance) = some 1000000 ∧ ((1000000 : Dist) - 1000000).toInt ≤ 0 ∧
    0 < ((1000248 : Dist) - 1000000).toInt := by decide +kernel

/-- The CAB, and a leading axle on a bus of two of them, receiving a PATH point; and the joint, whose lag items stay. -/
theorem witness_path_dropped :
    (let s := { station 0 .active with li := { LineInterface.reset with
        complete := some ⟨frameChars .path 1 somePoint.body, 999990⟩ } };
      s.powered = true ∧ s.runs = true ∧ s.own = .cab ∧
        judge s.sc.prof s.sc.strap (frameChars .path 1 somePoint.body) = .accepted 1 (.path somePoint)) ∧
    (let s := received .active (frameChars .path 1 somePoint.body)
      let s := { s with sc := { s.sc with prof := { bus with stations := bus.stations.set 2 (.axle 1 (axle 5900)) } } };
      s.own.isLeading = true ∧ s.runs = true ∧
        judge s.sc.prof s.sc.strap (frameChars .path 1 somePoint.body) = .accepted 1 (.path somePoint)) ∧
    (station 3 .active).own.isJoint = true ∧
    judge bus 3 (frameChars .path 1 somePoint.body) = .accepted 1 (.path somePoint) := by decide +kernel

/-- R68: the first point of an empty queue withdraws PATH_LAG and sets the lag reference to the own odometer. -/
theorem test_first_point_rearms :
    let s := pathed somePoint []
    let t := after (.frameReceived 0 ⟨true, true⟩)
      { s with pu := { s.pu with lagRef := some 1, lagStands := true }, pc := { s.pc with ownOdo := 77 } }
    t.pu.lagRef = some 77 ∧ t.pu.lagStands = false := by decide +kernel

theorem witness_PeerExpiries :
    (let s := sees 1 (axleStatus 5000 .active) (station 2 .active);
      s.powered = true ∧ s.runs = true ∧ (1 : Fin 8) ≠ s.sc.strap ∧ s.pv.peers[(1 : Fin 8)].freshness = .fresh ∧
        s.sc.prof.statusLimit < ((s.elapse 30001).now - s.pv.peers[(1 : Fin 8)].arrival).toNat) ∧
    (stopped.own ≠ .cab ∧ stopped.pv.demand.freshness = .fresh ∧
      30000 < ((stopped.elapse 30001).now - stopped.pv.demand.arrival).toNat) ∧
    (let s := { stopped with pv := { stopped.pv with demand := { stopped.pv.demand with freshness := .stale } } };
      s.powered = true ∧ s.runs = true ∧ s.pv.demand.freshness = .stale ∧
        s.pv.demand.record = some (demand .hold .none []) ∧ s.pv.episode = false ∧
        230000 < ((s.elapse 230001).now - s.pv.demand.arrival).toNat) := by decide +kernel

/-! ### Steering and the joint guard -/

/-- Axle 2 as `follower`, its steering unit in a state. -/
def steering (st : SteerState) (command : Int) (start : Option Time) : State :=
  { follower with su := { SteeringUnit.reset false with
      state := st, command := command, releaseStart := start, trackStart := start, zeroStart := start } }

theorem witness_SteerUnlocks :
    let s := steering .locked 0 none
    s.powered = true ∧ (s.elapse 0).steeringDue = true ∧ s.own = .axle 2 (axle 5900) ∧ s.su.state = .locked ∧
      (s.elapse 0).followConditions (axle 5900) = true ∧
      lookupAt ((s.elapse 0).axlePosition (axle 5900)) s.pu.queue = .value 5459 ∧
      lookupAt ((station 2 .active).axlePosition (axle 5900)) [] = .noPath ∧
      (station 2 .isolated).followConditions (axle 5900) = false := by decide +kernel

theorem witness_SteerLeavesLockedOnly :
    let s := steering .locked 0 none
    s.su.state = .locked ∧ (after (.steeringUpdate 0) s).su.state = .lockRelease ∧
      (after (.steeringUpdate 0) s).su.state ≠ .leading := by decide +kernel

theorem witness_SteerTimes :
    (let s := steering .lockRelease 0 (some 900000);
      s.powered = true ∧ (s.elapse 0).steeringDue = true ∧ s.own = .axle 2 (axle 5900) ∧ s.su.state = .lockRelease ∧
        lasted s.su.releaseStart 100000 (s.elapse 0).now = true) ∧
    lasted (steering .lockRelease 0 (some 900001)).su.releaseStart 100000 (follower.elapse 0).now = false ∧
    (let s := reads 6 ⟨0, none, .failed, 10, 0⟩ (steering .centring 0 (some 700000));
      s.su.state = .centring ∧ s.su.command = 0 ∧ (s.channel 6).reading = none ∧ (s.elapse 0).steeringDue = true ∧
        lasted s.su.zeroStart 300000 (s.elapse 0).now = true) ∧
    (let s := reads 6 (good (-99)) (steering .following (-400) (some 700000));
      s.su.state = .following ∧ s.su.latch = false ∧ (s.channel 6).reading = some (-99) ∧ (s.elapse 0).steeringDue = true ∧
        300 < (-99 - s.su.command).natAbs ∧ lasted s.su.trackStart 300000 (s.elapse 0).now = true) := by decide +kernel

theorem witness_FollowCommand :
    (∀ st ∈ [SteerState.following, .holding, .centring], let s := steering st (-390) none;
      s.powered = true ∧ (s.elapse 0).steeringDue = true ∧ s.own = .axle 2 (axle 5900) ∧ s.su.state = st ∧
        (trackingCheck (s.elapse 0)).followConditions (axle 5900) = true ∧
        lookupAt ((s.elapse 0).axlePosition (axle 5900)) s.pu.queue = .value 5459 ∧
        (s.elapse 0).refSpeed = some 5000 ∧
        (let q := points.map fun p => { p with breakBefore := true }
          let h := { s with pu := { s.pu with queue := q } };
          (trackingCheck (h.elapse 0)).followConditions (axle 5900) = true ∧
            lookupAt ((h.elapse 0).axlePosition (axle 5900)) h.pu.queue = .brk) ∧
        lookupAt ((s.elapse 0).axlePosition (axle 5900)) [] = .noPath ∧
        (trackingCheck ({ s with sc := { s.sc with station := .isolated } }.elapse 0)).followConditions (axle 5900) = false) ∧
    (∀ m ∈ [(50 : Int), 51], ∀ c ∈ [(0 : Int), 20, 21],
      let s := reads 6 (good m) (steering .centring c none)
      let s := { s with pu := { s.pu with queue := [] } };
      s.powered = true ∧ (s.elapse 0).steeringDue = true ∧ s.su.state = .centring ∧ s.su.command = c ∧
        (s.channel 6).reading = some m ∧ lookupAt ((s.elapse 0).axlePosition (axle 5900)) s.pu.queue = .noPath ∧
        s.sc.prof.rateStep = 20) ∧
    (∀ n ∈ [700000, 700001], let s := reads 6 ⟨0, none, .failed, 10, 0⟩ (steering .centring 0 (at_ (some n)));
      (s.channel 6).reading = none ∧ (lasted s.su.zeroStart 300000 (s.elapse 0).now = true ↔ n = 700000)) := by decide +kernel

/-- R79: a centring axle at a command of 0 locks at a measured angle of 50 cdeg and not at 51. -/
theorem test_lock_band : ∀ m ∈ [(50 : Int), 51],
    let s := reads 6 (good m) (steering .centring 0 none)
    (after (.steeringUpdate 0) { s with pu := { s.pu with queue := [] } }).su.state =
      if m = 50 then .locked else .centring := by decide +kernel

/-- The joint, ACTIVE, with an angle, a damper pressure and a path over its two neighbours, its unit given. -/
def guarding (angle : Channel) (pressure : Int) (u : JointUnit) : State :=
  let s := sees 1 (axleStatus 5000 .active) (station 3 .active)
  reads 0 angle (reads 1 (good pressure)
    { s with
      ju := u
      pu := { s.pu with
        queue := [⟨987488, 4100, 6200, 3, false⟩, ⟨987744, 4300, 6200, 3, false⟩] ++ points, queueEpoch := some 3 } })

theorem witness_JointStateAndDamping :
    (∀ a ∈ [good 1500, good 8193, ⟨0, none, .failed, 10, 0⟩], let s := guarding a 320 JointUnit.reset;
      s.powered = true ∧ (s.elapse 0).jointDue = true ∧ s.drives = true ∧ s.own = .joint 1 joint1 ∧ joint1.d0 ≤ 100 ∧
        (s.channel 0).reading = a.reading ∧ (s.elapse 0).leadingDirection ≠ some .reverse ∧
        (s.elapse 0).expected joint1 = some 1193) ∧
    (station 3 .active).expected joint1 = none := by decide +kernel

theorem witness_JointTimes :
    (∀ risk : Bool, ∀ n ∈ [none, some 900000], ∀ a ∈ [good 1500, good 8193, ⟨0, none, .failed, 10, 0⟩],
      let start := at_ n
      let s := guarding a 320 { JointUnit.reset with risk := risk, clearStart := start };
      s.powered = true ∧ (s.elapse 0).jointDue = true ∧ s.drives = true ∧ s.own = .joint 1 joint1 ∧ s.ju.risk = risk ∧
        s.ju.clearStart = start ∧ s.ju.beyondEnd = false ∧ (s.elapse 0).refSpeed = some 5000 ∧
        (riskSet joint1 (some 5000) ((s.elapse 0).jointView joint1) = false ↔ a = good 1500)) ∧
    riskClears joint1 ((guarding (good 2143) 320 JointUnit.reset).jointView joint1) = false ∧
    riskSet joint1 (some 5000) ((guarding (good 2143) 320 JointUnit.reset).jointView joint1) = false ∧
    (let s := guarding (good 1500) 320 { JointUnit.reset with risk := true, clearStart := some 700000 };
      s.powered = true ∧ (s.elapse 0).jointDue = true ∧ s.drives = true ∧ s.own = .joint 1 joint1 ∧ s.ju.risk = true ∧
        s.ju.damperLost = false ∧ s.ju.lowStart = none ∧ lasted s.ju.clearStart 300000 (s.elapse 0).now = true ∧
        s.ju.state = ((s.elapse 0).jointView joint1).state ∧
        riskSet joint1 (s.elapse 0).refSpeed ((s.elapse 0).jointView joint1) = false ∧
        riskClears joint1 ((s.elapse 0).jointView joint1) = true) ∧
    (let s := guarding (good 1500) 149 { JointUnit.reset with damping := 60, lowStart := some 0 };
      (s.channel 1).reading = some 149 ∧ (149 : Int) < 150 ∧ 60 ≤ s.ju.damping ∧ (s.elapse 0).jointDue = true ∧
        lasted s.ju.lowStart 1000000 (s.elapse 0).now = true) ∧
    (let s := guarding (good 1500) 150 { JointUnit.reset with damperLost := true, goodStart := some 700000 };
      (s.channel 1).reading = some 150 ∧ s.ju.damperLost = true ∧ (s.elapse 0).jointDue = true ∧
        lasted s.ju.goodStart 300000 (s.elapse 0).now = true) := by decide +kernel

/-- The joint in LISTENING with a path whose second point is the last behind its rear neighbour, and a path all ahead of it. -/
theorem witness_joint_listening :
    let s := guarding (good 1500) 320 JointUnit.reset
    let s := { s with sc := { s.sc with station := .listening } }
    s.powered = true ∧ (s.elapse 0).jointDue = true ∧ s.own = .joint 1 joint1 ∧
      (s.elapse 0).rearPosition joint1 = some 987600 ∧
      (∃ y ∈ s.pu.queue, (y.distance - (987600 : Dist)).toInt ≤ 0) ∧
      (∀ y ∈ points, 0 < (y.distance - (987600 : Dist)).toInt) := by decide +kernel

/-! ### Braking, the CAB and the hold -/

/-- Axle 3 rolling at a speed, its hold OFF, its wheels in a slip state at a target of 300 kPa. -/
def braking (speed : Nat) (slip : SlipState) : State :=
  let s := hears (demand .none .none []) (station 4 .active)
  { s with
    pc := { s.pc with axleSpeed := speed, left := ⟨[], speed⟩, right := ⟨[], speed - speed / 5⟩ }
    hu := { s.hu with state := .off, valve := true }
    bu := { s.bu with left := ⟨slip, 300, 300, 2⟩, right := ⟨slip, 300, 300, 2⟩ } }

/-- Axle 3 rolling with the joint ahead of it at risk, behind a leading axle that drives in a direction. -/
def jackknifing (d : Direction) : State :=
  sees 3 ⟨.active, 0, ⟨false, false, false, false⟩, 0, .joint ⟨0, .tracking, true, 20⟩⟩
    (sees 1 ⟨.active, 0, ⟨false, false, false, false⟩, 0,
      .axle ⟨999, d, false, false, false, 0, .off, .ride, .leading, 0, []⟩⟩ (braking 999 .apply))

/-- The reverse-stop and stretch clauses of BrakeDemandForms. -/
theorem witness_reverse_stop_and_stretch :
    (let u := (jackknifing .reverse).elapse 0;
      u.brakeDue = true ∧ (jackknifing .reverse).drives = true ∧ u.bu.reverseStop = false ∧ u.standstill = false ∧
        u.leadingDirection = some .reverse ∧ (3 : Fin 8) ∈ u.sc.prof.joints ∧ u.jointRisk 3 = some true ∧
        (after (.brakeUpdate 0) (jackknifing .reverse)).bu.reverseStop = true) ∧
    (let u := (jackknifing .forward).elapse 0;
      u.brakeDue = true ∧ u.leadingDirection = some .forward ∧ (u.stretches (axle 12400)).max? = some 38 ∧
        (after (.brakeUpdate 0) (jackknifing .forward)).bu.reverseStop = false) := by decide +kernel

theorem witness_BrakeDemandForms :
    (∀ st ∈ [StationState.listening, .active], let s := station 4 st;
      s.powered = true ∧ (s.elapse 0).brakeDue = true ∧ s.own = .axle 3 (axle 12400) ∧ s.bu.frozen = none ∧
        (s.channel 2).reading = some 320 ∧ (s.channel 3).reading = some 320 ∧ s.drives = decide (st = .active)) ∧
    (let s := braking 999 .apply;
      s.drives = true ∧ (s.elapse 0).refSpeed = some 999 ∧ (s.elapse 0).brakeDue = true ∧
        (s.elapse 0).stretches (axle 12400) = [] ∧ (after (.brakeUpdate 0) s).bu.reverseStop = false ∧
        (after (.brakeUpdate 0) s).bu.load = some 8900) := by decide +kernel

theorem witness_SlipHoldRows :
    ∀ st ∈ [SlipState.apply, .release, .holdP, .reapply], let s := braking 1000 st
    s.powered = true ∧ (s.elapse 0).brakeDue = true ∧ s.own = .axle 3 (axle 12400) ∧ s.drives = true ∧
      (s.elapse 0).refSpeed = some 1000 ∧ 1000 ≤ 1000 ∧ s.hu.state.applied = false ∧ 0 < (s.elapse 0).effectiveDemand.brake ∧
      s.bu.left.slip = st ∧ s.bu.right.slip = st ∧ 150 < (((1000 : Int) - s.pc.right.speed) * 1000).tdiv 1000 ∧
      (((1000 : Int) - s.pc.left.speed) * 1000).tdiv 1000 < 80 ∧ 3 ≤ s.bu.left.holdGood + 1 := by decide +kernel

/-- The CAB with its two pedal channels. -/
def cab (st : StationState) (a b : Channel) : State := reads 0 a (reads 1 b (station 0 st))

/-- Cab controls: the hold switch, the acknowledge button and the three kneel buttons. -/
def controls (hold ack left right raise : Bool) : CabInputs := ⟨hold, left, right, raise, ack, 0xFF, 0xFF⟩

theorem witness_CabFormsDemand :
    (∀ a ∈ [good 5, ⟨0, some 40, .holding, 1, 0⟩], ∀ b ∈ [good 15, good 16, ⟨0, none, .failed, 10, 0⟩], let s := cab .active a b;
      s.powered = true ∧ (s.elapse 0).cabDue = true ∧ s.drives = true ∧ (s.channel 0).goodReading = a.goodReading ∧
        (s.channel 1).goodReading = b.goodReading ∧ s.cu.ackUnread = false ∧ s.cu.ack = false) ∧
    ((5 : Int) - 15).natAbs ≤ 10 ∧ 10 < ((5 : Int) - 16).natAbs := by decide +kernel

theorem witness_CabKneelAndLamps :
    (let s := { cab .active (good 5) (good 5) with cu := { CabUnit.reset 0 false with buttons := some ⟨false, false, false⟩ } };
      s.powered = true ∧ (s.elapse 0).cabDue = true ∧ s.drives = true ∧ (controls true false true true true).holdSwitch = true ∧
        s.cu.buttons = some ⟨false, false, false⟩) ∧
    (let s := cab .listening (good 5) (good 5);
      s.powered = true ∧ (s.elapse 0).cabDue = true ∧ s.sc.station = .listening) ∧
    (let s := { cab .active (good 5) (good 5) with cu := { CabUnit.reset 0 false with lampStart := some 0 } };
      s.powered = true ∧ s.own = .cab ∧ s.cu.lampOver = false ∧
        lasted s.cu.lampStart 2000000 (s.elapse 1000000).now = true) ∧
    (let s := { cab .active (good 5) (good 5) with cu := { CabUnit.reset 0 false with lampOver := true } };
      (s.elapse 0).cabDue = true ∧ s.cu.lampOver = true) := by decide +kernel

/-- Axle 2 standing at ride height, its hold unit in a state under a request, started at `start`. -/
def holding (st : HoldState) (q : HoldRequest) (start : Option Time) : State :=
  let s := hears (demand q .none []) stopped
  { s with hu := { s.hu with state := st, applyStart := start, confirmStart := start, releaseStart := start } }

theorem witness_HoldTransitions :
    (∀ st ∈ [HoldState.off, .held, .releasePending, .releasing], ∀ q ∈ [HoldRequest.none, .hold],
      ∀ n ∈ [800000, 800001], let s := holding st q (at_ (some n));
      s.powered = true ∧ (s.elapse 0).holdDue = true ∧ s.drives = true ∧ s.hu.state = st ∧
        (s.elapse 0).effectiveDemand.hold = q ∧ (s.elapse 0).standstill = true ∧ (s.elapse 0).allDoorsLocked = true ∧
        s.lu.level = .ride ∧ s.hu.latch = false ∧
        lasted s.hu.releaseStart 200000 (s.elapse 0).now = decide (n = 800000)) ∧
    (∀ q ∈ [HoldRequest.none, .hold], ∀ n ∈ [900000, 900001],
      let s := reads 4 (good 540) (reads 5 (good 540) (holding .applying q (at_ (some n))));
      s.hu.state = .applying ∧ (s.elapse 0).effectiveDemand.hold = q ∧ (s.elapse 0).bothConfirm = true ∧
        lasted s.hu.applyStart 1000000 (s.elapse 0).now = false ∧
        (100000 ≤ ((s.elapse 0).now - s.hu.confirmStart.getD 0).toNat ↔ n = 900000)) ∧
    (let s := reads 4 (good 539) (holding .applying .hold none);
      s.hu.state = .applying ∧ (s.elapse 0).bothConfirm = false ∧ lasted s.hu.applyStart 1000000 (s.elapse 0).now = false) := by
  decide +kernel

theorem witness_HoldTimes :
    (let s := reads 4 (good 540) (reads 5 (good 540) (holding .applying .hold (some 900000)));
      s.powered = true ∧ (s.elapse 0).holdDue = true ∧ s.hu.state = .applying ∧ (s.elapse 0).bothConfirm = true ∧
        lasted s.hu.confirmStart 100000 (s.elapse 0).now = true ∧ (s.elapse 0).effectiveDemand.hold = .hold) ∧
    (let s := reads 4 (good 539) (holding .applying .hold (some 0));
      s.hu.state = .applying ∧ s.hu.latch = false ∧ (s.elapse 0).bothConfirm = false ∧ (s.elapse 0).holdDue = true ∧
        lasted s.hu.applyStart 1000000 (s.elapse 0).now = true) ∧
    (let s := holding .releasing .none (some 800000);
      s.hu.state = .releasing ∧ s.drives = true ∧ (s.elapse 0).holdDue = true ∧
        lasted s.hu.releaseStart 200000 (s.elapse 0).now = true ∧ (s.elapse 0).effectiveDemand.hold = .none) := by decide +kernel

theorem witness_HoldReleasesOnly :
    let s := holding .releasePending .none none
    s.hu.valve = false ∧ (after (.holdUpdate 0) s).hu.valve = true := by decide +kernel

/-! ### Ride height -/

/-- Axle 2 at a stop with a kneel request and its level unit in a kneel phase. -/
def kneeling (q : KneelRequest) (k : KneelPhase) : State :=
  let s := hears (demand .hold q []) stopped
  { s with lu := { s.lu with kneel := k } }

theorem witness_KneelBegins :
    (∀ k ∈ [KneelPhase.none, .raising], ∀ p ∈ [CornerPhase.steady, .filling, .exhausting, .closing, .settling],
      let s := withPhase p (kneeling .left k);
      s.powered = true ∧ (s.elapse 0).levelDue = true ∧ s.drives = true ∧ s.lu.kneel = k ∧
        (s.elapse 0).effectiveDemand.kneel ≠ .none ∧ s.hu.state.isHeld = true ∧ (s.elapse 0).standstill = true ∧
        s.lu.kneelLatch = false ∧ s.lu.abort = false ∧ s.lu.restartFault = false ∧ (s.channel 0).reading = some 320 ∧
        (s.channel 1).reading = some 320 ∧ s.lu.left.phase = p ∧ s.lu.right.phase = p) ∧
    (let s := kneeling .left .none
      let s := { s with lu := { s.lu with
        left := { s.lu.left with phase := .settling, settleStart := some 700000, pulseHeight := some 320, unchecked := true, progress := 3 } } };
      s.lu.left.phase ≠ .fault ∧ (after (.levelUpdate 0 false) s).lu.left.phase = .fault) ∧
    (∀ k ∈ [KneelPhase.kneeling, .knelt], let s := kneeling .none k;
      s.powered = true ∧ (s.elapse 0).levelDue = true ∧ s.drives = true ∧ s.lu.abort = false ∧ s.lu.kneel = k ∧
        (s.elapse 0).effectiveDemand.kneel = .none) ∧
    (∀ h ∈ [(325 : Int), 326], let s := reads 0 (good h) (kneeling .left .kneeling)
      let s := { s with lu := { s.lu with sides := .left } };
      (s.elapse 0).standstill = true ∧ (s.channel 0).reading = some h ∧ s.lu.kneel = .kneeling ∧
        (s.elapse 0).effectiveDemand.kneel ≠ .none ∧ s.lu.sides.names .left = true ∧ s.lu.left.target = 320 ∧
        (after (.levelUpdate 0 false) s).lu.left.phase ≠ .fault ∧ (after (.levelUpdate 0 false) s).lu.right.phase ≠ .fault) ∧
    (let s := reads 0 (good 324) (kneeling .none .raising);
      s.lu.kneel = .raising ∧ (s.elapse 0).effectiveDemand.kneel = .none ∧ s.lu.restartFault = false ∧
        s.lu.left.phase = .steady ∧ s.lu.right.phase = .steady ∧ (s.elapse 0).standstill = true ∧
        ((324 : Int) - s.sc.prof.rideHeight).natAbs ≤ 4 ∧ (s.channel 1).reading = some 320) := by decide +kernel

theorem witness_KneelBeginsOnly :
    (kneeling .left .none).lu.kneel.lowered = false ∧
      (after (.levelUpdate 0 false) (kneeling .left .none)).lu.kneel.lowered = true := by decide +kernel

/-- Axle 2 at a stop at a height, both corners in a phase with their starts at `start`. -/
def pulsing (height : Int) (spring : Int) (p : CornerPhase) (progress : Nat) (start : Option Time) : State :=
  let s := reads 0 (good height) (reads 2 (good spring) stopped)
  let c := { s.lu.left with
    phase := p, pulseStart := start, settleStart := start, pulseHeight := some 320, unchecked := true, progress := progress }
  { s with lu := { s.lu with left := c, right := { c with phase := .steady } } }

theorem witness_CornerPulses :
    (∀ h ∈ [(315 : Int), 316, 324, 325], ∀ p ∈ [(99 : Int), 100], let s := pulsing h p .steady 0 none;
      s.powered = true ∧ (s.elapse 0).levelDue = true ∧ s.drives = true ∧ (s.elapse 0).standstill = true ∧ s.lu.abort = false ∧
        s.lu.kneel = .none ∧ (s.elapse 0).effectiveDemand.kneel = .none ∧ s.lu.restartFault = false ∧
        (s.channel (heightChannel .left)).reading = some h ∧ (s.channel (springChannel .left)).reading = some p ∧
        (s.lu.corner .left).phase = .steady) ∧
    (∀ p ∈ [CornerPhase.filling, .exhausting, .closing], ∀ h ∈ [(317 : Int), 318, 322, 323], ∀ x ∈ [(99 : Int), 100],
      let s := pulsing h x p 0 (some 900000);
      (s.lu.corner .left).phase = p ∧ (s.channel (heightChannel .left)).reading = some h ∧ (s.elapse 0).levelDue = true ∧
        (s.channel (springChannel .left)).reading = some x ∧
        lasted (s.lu.corner .left).pulseStart 2000000 (s.elapse 0).now = false) ∧
    (∀ p ∈ [CornerPhase.filling, .exhausting], let s := pulsing 300 400 p 0 (some 0);
      (s.lu.corner .left).phase = p ∧ ((s.elapse 1000000).standstill = true) ∧ (s.elapse 1000000).levelDue = true ∧
        lasted (s.lu.corner .left).pulseStart 2000000 (s.elapse 1000000).now = true) ∧
    (∀ h ∈ [(321 : Int), 322], ∀ n ∈ [2, 3], let s := pulsing h 400 .settling n (some 700000);
      (s.lu.corner .left).phase = .settling ∧ lasted (s.lu.corner .left).settleStart 300000 (s.elapse 0).now = true ∧
        (s.lu.corner .left).pulseHeight = some 320 ∧ (s.lu.corner .left).unchecked = true ∧
        (s.lu.corner .left).progress = n) := by decide +kernel

/-- Axle 2 at a stop at 321 mm, its left corner in FAULT for a cause, its pulse from 320 mm checked or not. -/
def faulted (cause : FaultCause) (unchecked latch : Bool) : State :=
  let s := pulsing 321 400 .fault 4 (some 700000)
  { s with lu := { s.lu with left := { s.lu.left with cause := cause, unchecked := unchecked }, levelLatch := latch } }

/-- The FAULT clauses of CornerPulses, and a settling corner whose last pulse has had its check. -/
theorem witness_corner_fault :
    (∀ c ∈ [FaultCause.channel, .timeout], ∀ b : Bool, let s := faulted c false b;
      s.powered = true ∧ (s.elapse 0).levelDue = true ∧ s.drives = true ∧ (s.elapse 0).standstill = true ∧
        s.lu.abort = false ∧ s.lu.kneel = .none ∧ (s.elapse 0).effectiveDemand.kneel = .none ∧ s.lu.restartFault = false ∧
        (s.channel (heightChannel .left)).reading = some 321 ∧ (s.lu.corner .left).phase = .fault ∧
        (s.lu.corner .left).cause = c ∧ s.lu.levelLatch = b) ∧
    (let s := pulsing 321 400 .settling 3 (some 700000)
      let s := { s with lu := { s.lu with left := { s.lu.left with unchecked := false } } };
      (s.lu.corner .left).phase = .settling ∧ lasted (s.lu.corner .left).settleStart 300000 (s.elapse 0).now = true ∧
        (s.lu.corner .left).unchecked = false ∧ (s.lu.corner .left).progress ≤ 3) := by decide +kernel

/-- Axle 2 rolling, its left corner in a phase, with a full history of seven samples of 320 and a newest of 330. -/
def rolling (height : Int) (p : CornerPhase) : State :=
  let s := pulsing height 400 p 0 (some 900000)
  { s with
    pv := { s.pv with lastMoving := some s.now }
    lu := { s.lu with left := { s.lu.left with history := [320, 320, 320, 320, 320, 320, 320, 330] } } }

/-- The other forms of CornerPulses: a moving bus, a channel without a value, a restart that kept the LEVEL latch, LISTENING. -/
theorem witness_corner_forms :
    (∀ h ∈ [(240 : Int), 320, 400], ∀ p ∈ [CornerPhase.steady, .filling, .exhausting, .closing], let s := rolling h p;
      s.powered = true ∧ (s.elapse 0).levelDue = true ∧ s.drives = true ∧ (s.elapse 0).standstill = false ∧
        s.lu.abort = false ∧ s.lu.kneel = .none ∧ (s.elapse 0).effectiveDemand.kneel = .none ∧ s.lu.restartFault = false ∧
        (s.channel (heightChannel .left)).reading = some h ∧ (s.lu.corner .left).phase = p) ∧
    (∀ k ∈ [KneelPhase.none, .kneeling, .knelt], ∀ b : Bool, ∀ p ∈ [CornerPhase.exhausting, .fault],
      let s := reads 0 ⟨0, none, .failed, 10, 0⟩ (withPhase p (kneeling .left k))
      let s := { s with lu := { s.lu with abort := b } };
      s.powered = true ∧ (s.elapse 0).levelDue = true ∧ s.drives = true ∧ s.lu.restartFault = false ∧ s.lu.kneel = k ∧
        s.lu.abort = b ∧ (s.channel (heightChannel .left)).reading = none ∧ (s.lu.corner .left).phase = p) ∧
    (∀ b : Bool, let s := { stopped with lu := { stopped.lu with restartFault := true, levelLatch := b } };
      s.powered = true ∧ (s.elapse 0).levelDue = true ∧ s.lu.restartFault = true ∧ s.lu.levelLatch = b) ∧
    (∀ h ∈ [(324 : Int), 325], let s := pulsing h 400 .steady 0 none
      let s := { s with sc := { s.sc with station := .listening } };
      s.powered = true ∧ (s.elapse 0).levelDue = true ∧ s.lu.kneel = .none ∧ s.lu.restartFault = false ∧
        (∀ x ∈ [Side.left, .right], (s.lu.corner x).phase = .steady ∧ (s.lu.corner x).floorBar = false ∧
          (s.channel (heightChannel x)).reading ≠ none)) := by decide +kernel

/-- R152, R153: a full history loses its oldest sample, so that six of 320, one of 330 and the new one are meant: 374 gives 328,
381 gives 328 (truncated from 328.875), inside the deadband of 8 mm, and 382 gives 329, outside it. The next update is 250,000 µs
on (R151). -/
theorem test_moving_mean : ∀ h ∈ [(374 : Int), 381, 382], let t := after (.levelUpdate 0 false) (rolling h .steady)
    t.lu.left.height = some (if h = 382 then 329 else 328) ∧
      t.lu.left.phase = (if h = 382 then .exhausting else .steady) ∧ t.sched.level = some 1250000 := by decide +kernel

/-- R164: in LISTENING a corner outside its deadband opens no pulse, and the level state is LEVELLING; within it, RIDE. -/
theorem test_level_listening : ∀ h ∈ [(324 : Int), 325],
    let s := pulsing h 400 .steady 0 none
    let t := after (.levelUpdate 0 false) { s with sc := { s.sc with station := .listening } }
    t.lu.left.phase = .steady ∧ t.lu.left.exhaustValve = false ∧
      t.lu.level = (if h = 324 then .ride else .levelling) := by decide +kernel

/-- R156: a corner that left FAULT of cause TIMEOUT settles to STEADY with its counter at 0, so that four more pulses are checked
before it times out again; one that left CHANNEL with an unchecked pulse has that pulse checked (R155). -/
theorem test_four_more_pulses :
    (∀ b : Bool, let c := if b then FaultCause.channel else .timeout
      let t := after (.settleTimeEnd 300000 .left false) (after (.levelUpdate 0 false) (faulted c b false))
      (t.lu.left.phase, t.lu.left.progress, t.lu.left.unchecked) = (.steady, if b then 1 else 0, false)) := by decide +kernel

/-- Axle 2 with the left corner CLOSING to the present moment, and an abort pending or not. -/
def closingCorner (abort other : Bool) : State :=
  { stopped with lu := { stopped.lu with
      kneel := if abort then .kneeling else .none
      abort := abort
      left := { stopped.lu.left with phase := .closing, closureEnd := some 1000000 }
      right := { stopped.lu.right with closureEnd := if other then some 1000001 else none } } }

theorem witness_ClosureAndAbort :
    ∀ b o : Bool, let s := closingCorner b o;
      s.powered = true ∧ s.runs = true ∧ s.own.isAxle = true ∧ (s.lu.corner .left).phase = .closing ∧
        (s.lu.corner .left).closureEnd = some 1000000 ∧ 0 ≤ ((s.elapse 0).now - 1000000).toInt ∧ s.lu.abort = b ∧
        (s.lu.corner .right).closureEnd.isSome = o ∧ (s.lu.corner .left).phase ≠ .fault ∧ s.lu.kneel.freezes = b := by decide +kernel

theorem witness_SkirtContactActs :
    (∀ p ∈ [CornerPhase.exhausting, .steady], let s := withPhase p (kneeling .both .kneeling);
      s.powered = true ∧ s.runs = true ∧ s.own.isAxle = true ∧ s.lu.kneel = .kneeling ∧ s.lu.abort = false ∧
        (s.lu.corner .left).phase = p ∧ (s.lu.corner .left).closureEnd = none) ∧
    (kneeling .none .raising).lu.kneel = .raising := by decide +kernel

/-- The level update of SkirtContactActs that reads the contact active. -/
theorem witness_contact_at_update :
    ∀ p ∈ [CornerPhase.exhausting, .steady, .filling], ∀ k ∈ [KneelPhase.kneeling, .knelt],
      let s := withPhase p (kneeling .both k);
      s.powered = true ∧ (s.elapse 0).levelDue = true ∧ s.lu.kneel = k ∧ s.lu.abort = false ∧ s.lu.restartFault = false ∧
        (s.channel 0).reading = some 320 ∧ (s.channel 1).reading = some 320 ∧ (s.lu.corner .left).phase = p ∧
        (s.lu.corner .left).closureEnd = none := by decide +kernel

/-! ### Doors -/

/-- Axle 2 at a stop with its first door as given, the second LOCKED, under a release list. -/
def doored (d : Door) (release : List Nat) : State :=
  let s := hears (demand .hold .none release) stopped
  let s := sees 1 (axleStatus 0 .active) (sees 4 (axleStatus 0 .active) s)
  { s with du := { s.du with doors := [d, door 2 .right .locked] } }

/-- Door inputs: the lock, unlock, open and closed switch, and the edge. -/
def inputs (lock unlock isOpen closed edge : Bool) : DoorInputs := ⟨lock, unlock, isOpen, closed, false, edge, false⟩

theorem witness_DoorEventsQueue :
    ∀ k ∈ [7, 8], let s := { stopped with du := { stopped.du with queue := List.replicate k ⟨0, 1, .beam⟩ } };
      s.powered = true ∧ s.runs = true ∧ s.own.isAxle = true ∧ (∃ d ∈ s.du.doors, d.number = 1) ∧
        s.du.queue.length = k := by decide +kernel

/-- The door update of DoorEventsQueue in LISTENING. -/
theorem witness_door_listening : let s := station 2 .listening
    s.powered = true ∧ (s.elapse 0).doorDue = true ∧ s.sc.station = .listening ∧
      s.du.doors[0]? = some (door 1 .left .locked) ∧ s.du.doors[1]? = some (door 2 .right .locked) := by decide +kernel

/-- R170: in LISTENING a lost bolt takes no door to FAULT, and a waiting entry is discarded. -/
theorem test_door_listening : let s := station 2 .listening
    let t := after (.doorUpdate 0 (inputs false false false false false) (inputs true false false false false))
      { s with du := { s.du with queue := [⟨999000, 1, .button⟩] } }
    t.du.doors.map (·.state) = [.locked, .locked] ∧ t.du.queue = [] := by decide +kernel

/-- Axle 2 with its first door in a state, held for the clear event or not. -/
def heldDoor (st : DoorState) (held : Bool) : State := doored { door 1 .left st with heldFault := held } []

/-- The door clauses of RestartKeepsAndClears, LatchesPersist and DoorMovesComplete for a door held for the clear event. -/
theorem witness_held_door :
    (∀ st ∈ [DoorState.opened, .opening, .fault], ∀ b : Bool, let s := heldDoor st b
      s.powered = true ∧ s.sc.station ≠ .inert ∧ (s.elapse 0).doorDue = true ∧ s.drives = true ∧
        s.du.doors[0]? = some { door 1 .left st with heldFault := b }) := by decide +kernel

/-- R182: a door that a restart met OPEN is reported FAULT whatever its lock switch then reads; one that it met OPENING is judged
by R179, and a clear event ends the report. -/
theorem test_held_door : ∀ st ∈ [DoorState.opened, .opening],
    let s := after (.restart 0 10 ⟨false, true⟩) (heldDoor st false)
    let s := { s with sc := { s.sc with station := .active }, sched := { s.sched with door := some 0 } }
    let t := after (.doorUpdate 0 (inputs true false false false false) (inputs true false false false false)) s
    t.du.doors.map (·.report true |>.lockedFault) = [decide (st = .opening), false] ∧
      (t.du.doors.map fun d => ((clearDoor 0 true d).state, (clearDoor 0 true d).heldFault)) =
        [(.locked, false), (.locked, false)] := by decide +kernel

theorem witness_DoorLockedStep :
    (∀ l ∈ [[], [1]], let s := doored (door 1 .left .locked) l;
      s.powered = true ∧ (s.elapse 0).doorDue = true ∧ s.drives = true ∧ 0 < 2 ∧
        s.du.doors[0]? = some (door 1 .left .locked) ∧ (door 1 .left .locked).state = .locked) ∧
    (let s := doored (door 1 .left .locked) [1];
      (s.elapse 0).effectiveDemand.source = .fresh ∧ (s.elapse 0).effectiveDemand.hold = .hold ∧
        1 ∈ (s.elapse 0).effectiveDemand.release ∧ (s.elapse 0).standstill = true ∧ (s.elapse 0).allHeldSince = true) := by
  decide +kernel

/-- A door in a state whose deadline passes at 1,000,000 and whose dwell began at `dwell`. -/
def moving (st : DoorState) (dwell : Time) : Door :=
  { door 1 .left st with deadline := some 1000000, dwellStart := some dwell, driveStop := some 1000000 }

theorem witness_DoorMovesComplete :
    (∀ st ∈ [DoorState.unlocking, .opening, .locking, .released, .closing, .reversing], ∀ l ∈ [[], [1]],
      let s := doored (moving st 0) l;
      s.powered = true ∧ (s.elapse 0).doorDue = true ∧ s.drives = true ∧ 0 < 2 ∧ s.du.doors[0]? = some (moving st 0) ∧
        s.du.queue = [] ∧ decide (1 ∈ (s.elapse 0).effectiveDemand.release) = decide (l = [1])) ∧
    passed (some 1000000) 1000000 = true ∧ passed (some 1000000) 999999 = false := by decide +kernel

/-- A door at a stop under a release list, its entries waiting. -/
def queued (d : Door) (release : List Nat) (q : List DoorEvent) : State :=
  let s := doored d release
  { s with du := { s.du with queue := q } }

/-- The OPEN, event and FAULT clauses of DoorMovesComplete. -/
theorem witness_door_events :
    (∀ latch : Bool, ∀ l ∈ [[], [1]], ∀ q ∈ [[], [⟨999000, 1, .beam⟩]],
      let d := { moving .opened 990000 with latch := latch }
      let s := queued d l q;
      s.powered = true ∧ (s.elapse 0).doorDue = true ∧ s.drives = true ∧ s.du.doors[0]? = some d ∧ d.state = .opened ∧
        s.du.queue = q ∧ d.latch = latch ∧ decide (1 ∈ (s.elapse 0).effectiveDemand.release) = decide (l = [1]) ∧
        (s.elapse 0).effectiveDemand.source = .fresh ∧ 1 ∉ (s.elapse 0).effectiveDemand.opens) ∧
    (∀ k ∈ [DoorEventKind.button, .beam, .edge], ∀ st ∈ [DoorState.locked, .released, .opened, .closing, .fault],
      let s := queued (moving st 990000) [1] [⟨999000, 2, .edge⟩, ⟨999500, 1, k⟩];
      s.powered = true ∧ (s.elapse 0).doorDue = true ∧ s.drives = true ∧ s.du.doors[0]? = some (moving st 990000) ∧
        s.du.queue = [⟨999000, 2, .edge⟩, ⟨999500, 1, k⟩] ∧ (moving st 990000).number = 1) := by decide +kernel

/-- R175: a set obstruction latch keeps a door OPEN whose release is withdrawn; a clear one lets it close. -/
theorem test_latch_keeps_open : ∀ b : Bool, let i := inputs false true true false false
    ((after (.doorUpdate 0 i i) (queued { moving .opened 990000 with latch := b } [] [])).du.doors[0]?.map (·.state)) =
      some (if b then .opened else .closing) := by decide +kernel

/-- R175, R176: a BEAM entry moves the dwell start to its time; an EDGE entry turns a closing door back. -/
theorem test_door_entries : let i := inputs false true false false false
    ((after (.doorUpdate 0 i i) (queued (moving .opened 990000) [1] [⟨999000, 1, .beam⟩])).du.doors[0]?.map (·.dwellStart)) =
      some (some 999000) ∧
    ((after (.doorUpdate 0 i i) (queued (moving .closing 0) [1] [⟨999000, 1, .edge⟩])).du.doors[0]?.map fun d =>
      (d.state, d.count, d.driveStop)) = some (.reversing, 1, some 1150000) := by decide +kernel

theorem witness_DoorTimes :
    (let s := doored (moving .reversing 0) [];
      s.powered = true ∧ s.drives = true ∧ s.own.isAxle = true ∧ 0 < 2 ∧ s.du.doors[0]? = some (moving .reversing 0) ∧
        (moving .reversing 0).driveStop = some 1000000 ∧ 0 ≤ ((s.elapse 0).now - 1000000).toInt) ∧
    (let s := doored (moving .opened 1000000) [1];
      (s.elapse 5000000).doorDue = true ∧ s.du.queue = [] ∧ (moving .opened 1000000).latch = false ∧
        lasted (some 1000000) (s.sc.prof.dwellMs * 1000) (s.elapse 5000000).now = true ∧
        1 ∉ (s.elapse 5000000).effectiveDemand.opens) ∧
    (doored (moving .opened 1000000) [1]).effectiveDemand.source ≠ .fallback ∧
    (∀ st ∈ [DoorState.unlocking, .opening, .closing, .reversing, .locking], let s := doored (moving st 0) [];
      (s.elapse 0).doorDue = true ∧ s.du.queue = [] ∧ passed (moving st 0).deadline (s.elapse 0).now = true) := by
  decide +kernel

/-- The dwell clause of DoorTimes whole: the dwell began 5,000,000 µs before the present moment, modulo the wrap. -/
theorem witness_dwell :
    let s := doored (moving .opened (1000000 - 5000000)) [1]
    (s.elapse 0).doorDue = true ∧ s.du.queue = [] ∧ lasted (some (1000000 - 5000000)) (s.sc.prof.dwellMs * 1000) (s.elapse 0).now = true ∧
      1 ∉ (s.elapse 0).effectiveDemand.opens ∧ (s.elapse 0).effectiveDemand.source ≠ .fallback := by decide +kernel

theorem witness_DoorUnlocksOnly :
    let s := doored (door 1 .left .locked) [1]
    let i := inputs true false false true false
    s.du.doors[0]?.map (·.state) = some .locked ∧
      (after (.doorUpdate 0 i i) s).du.doors[0]?.map (·.state) = some .unlocking := by decide +kernel

/-! ### Rules of the whole machine -/

theorem witness_InertStays :
    (station 2 .inert).sc.station = .inert ∧ isSupply (.statusRequest 0) = false := by decide +kernel

theorem witness_LatchesPersist :
    let s := { kneeling .none .none with
      su := SteeringUnit.reset true, hu := { stopped.hu with latch := true }
      lu := { stopped.lu with levelLatch := true, kneelLatch := true }
      du := { stopped.du with doors := [{ door 1 .left .opened with latch := true }] } }
    isSupply (.levelUpdate 0 false) = false ∧ s.su.latch = true ∧ s.hu.latch = true ∧ s.lu.levelLatch = true ∧
      s.lu.kneelLatch = true ∧ s.du.doors[0]?.map (·.latch) = some true ∧
      (∀ dt l, Instr.levelUpdate 0 false ≠ .frameReceived dt l) ∧ (∀ dt i, Instr.levelUpdate 0 false ≠ .cabUpdate dt i) ∧
      (after (.levelUpdate 0 false) s).lu.kneelLatch = false :=
  ⟨by decide, rfl, rfl, rfl, rfl, by decide +kernel, by intros; nofun, by intros; nofun, by decide +kernel⟩

/-- One command for each clause of FramesOfUpdates. -/
theorem witness_FramesOfUpdates :
    (∃ dt, Instr.trackingTimeEnd 5 = .steeringUpdate dt ∨ Instr.trackingTimeEnd 5 = .lockReleaseTimeEnd dt ∨
      Instr.trackingTimeEnd 5 = .centringSettleEnd dt ∨ Instr.trackingTimeEnd 5 = .trackingTimeEnd dt) ∧
    (∃ dt n, Instr.driveStopEnd 5 1 = .driveStopEnd dt n) := ⟨⟨5, .inr (.inr (.inr rfl))⟩, ⟨5, 1, rfl⟩⟩

theorem witness_StatusFramesRoundTrip :
    (2 : Fin 8) ≠ 0 ∧ (axleStatus 65535 .active).Sendable (bus.station 2) := by
  refine ⟨by decide, .inl rfl, rfl, ?_⟩
  refine ⟨by decide, by decide, by decide, by decide, by decide, ?_⟩
  intro d hd
  cases hd

theorem witness_OtherFramesRoundTrip :
    (1 : Fin 8) ≠ 2 ∧ (bus.station 1).isPresent = true ∧ (bus.station 1).isLeading = true ∧
      (0 : Fin 8) ≠ 2 ∧ (bus.station 0).isPresent = true ∧
      (demand .hold .both [8, 1]).Sendable ∧ [EventKind.pathOverrun, .linkLoss].Nodup :=
  ⟨by decide, by decide, by decide, by decide, by decide, ⟨by decide, by decide, by decide⟩, by decide⟩

/-! ### The invariants hold somewhere a step begins -/

/-- A state with a hold update waiting. -/
def waiting : State := { stopped with pending := [.holdUpdate 0] }

/-- Its next state. -/
theorem waiting_steps : step waiting = .next (after (.holdUpdate 0) stopped) := exec_after (.holdUpdate 0) stopped

theorem witness_OutputsFollowKept : waiting.OutputsFollow :=
  ⟨by decide +kernel, by decide +kernel, ⟨by decide +kernel, by decide +kernel⟩, ⟨by decide +kernel, by decide +kernel⟩,
    by
      intro d hd
      simp only [waiting, stopped, hears, station, List.mem_cons, List.not_mem_nil, or_false] at hd
      rcases hd with rfl | rfl <;> exact ⟨by decide, by decide, by decide⟩,
    by decide +kernel, by decide +kernel⟩

theorem witness_BoundsKept : waiting.Bounded where
  leftEdges := by decide +kernel
  rightEdges := by decide +kernel
  leftSpeed := by decide +kernel
  rightSpeed := by decide +kernel
  axleSpeed := by decide +kernel
  trial := by intro c h; cases h
  leftProgress := by decide +kernel
  rightProgress := by decide +kernel
  obstructions := by
    intro d hd
    simp only [waiting, stopped, hears, station, List.mem_cons, List.not_mem_nil, or_false] at hd
    rcases hd with rfl | rfl <;> exact ⟨by decide, by decide⟩
  heldDoors := by
    intro d hd
    simp only [waiting, stopped, hears, station, List.mem_cons, List.not_mem_nil, or_false] at hd
    rcases hd with rfl | rfl <;> decide
  leftHoldGood := by decide +kernel
  rightHoldGood := by decide +kernel
  leftSetPoint := by decide +kernel
  rightSetPoint := by decide +kernel
  doorEvents := by decide +kernel
  points := by decide +kernel
  leftHistory := by decide +kernel
  rightHistory := by decide +kernel
  summary := List.Pairwise.nil
  channels := by
    intro c hc
    have : c = good 320 := by
      simp only [waiting, stopped, hears, station, Vector.toList_replicate, List.mem_replicate] at hc
      exact hc.2
    subst this
    exact ⟨by decide, by decide, by decide⟩
  fullLimit := by decide +kernel
  pressureLimit := by decide +kernel
  dampingFloor := by
    intro r hr j hj
    have : ∀ r ∈ waiting.sc.prof.stations.toList, r.joint?.all (fun j => decide (j.d0 ≤ 100)) = true := by decide +kernel
    have h := this r hr
    rw [hj] at h
    simpa using h
  command := by decide +kernel
  setPoint := by decide +kernel
  damping := by decide +kernel
  output := by decide +kernel
  leftTarget := by decide +kernel
  rightTarget := by decide +kernel
  demand := by decide +kernel

theorem witness_KneelInvariantKept : waiting.KneelHolds := ⟨by decide +kernel, by decide +kernel⟩

theorem witness_OutputsRestKept : waiting.RestsWhenStopped := fun h => absurd h (by decide +kernel)

end Sys2Proof.Tests
end

section
/-! PROOF. The joint guard (05): what one JOINT_UPDATE reads, the damping command, and the unit an update leaves (R96 to R104). -/

namespace Sys2Proof.Machine

/-! ### What an update reads after local time has passed -/

@[simp] theorem State.elapse_own (dt : Nat) (s : State) : (s.elapse dt).own = s.own := by
  simp [State.own]

@[simp] theorem State.elapse_drives (dt : Nat) (s : State) : (s.elapse dt).drives = s.drives := by
  simp [State.drives]

@[simp] theorem State.elapse_channel (dt : Nat) (s : State) (i : Fin 8) : (s.elapse dt).channel i = s.channel i := by
  simp [State.channel]

/-! ### The lines of the table of R99 -/

/-- The measured angle of an update is what channel 0 presents (R97). -/
theorem State.jointView_measured (s : State) (r : JointRec) :
    (s.jointView r).measured = (s.channel 0).reading := by
  unfold State.jointView
  split
  case h_1 h => exact h.symm
  case h_2 m h =>
    rw [h]
    (repeat' split) <;> rfl

/-- Without an angle the joint state is FAULT. -/
theorem State.jointView_fault {s : State} {r : JointRec} (h : (s.channel 0).reading = none) :
    s.jointView r = ⟨none, .fault, 0⟩ := by
  simp only [State.jointView, h]

/-- With an angle the joint state is REVERSE while the leading direction is REVERSE. -/
theorem State.jointView_reverse {s : State} {r : JointRec} {m : Int} (h : (s.channel 0).reading = some m)
    (hd : s.leadingDirection = some .reverse) : s.jointView r = ⟨some m, .reverse, 0⟩ := by
  simp only [State.jointView, h, if_pos hd]

/-- Otherwise it is TRACKING on an expected angle, with the deviation of the measured angle from it. -/
theorem State.jointView_tracking {s : State} {r : JointRec} {m x : Int} (h : (s.channel 0).reading = some m)
    (hd : s.leadingDirection ≠ some .reverse) (hx : s.expected r = some x) :
    s.jointView r = ⟨some m, .tracking, deviation m x⟩ := by
  simp only [State.jointView, h, if_neg hd, hx]

/-- Without an expected angle it is STATIC. -/
theorem State.jointView_static {s : State} {r : JointRec} {m : Int} (h : (s.channel 0).reading = some m)
    (hd : s.leadingDirection ≠ some .reverse) (hx : s.expected r = none) :
    s.jointView r = ⟨some m, .static, 0⟩ := by
  simp only [State.jointView, h, if_neg hd, hx]

/-- The joint state with an angle: the three lines of R99 after FAULT. -/
theorem State.jointView_state {s : State} {r : JointRec} {m : Int} (h : (s.channel 0).reading = some m) :
    (s.jointView r).state =
      if s.leadingDirection = some .reverse then .reverse
      else if (s.expected r).isSome then .tracking else .static := by
  by_cases hd : s.leadingDirection = some .reverse
  · rw [s.jointView_reverse h hd, if_pos hd]
  · rw [if_neg hd]
    cases hx : s.expected r with
    | none => simp [s.jointView_static h hd hx]
    | some x => simp [s.jointView_tracking h hd hx]

/-! ### The damping command (R103) -/

/-- Beyond the end limit the command is 100 %. -/
@[simp] theorem dampingCommand_beyondEnd (r : JointRec) (v : Option Nat) (w : JointView) :
    dampingCommand r v w true = 100 := rfl

/-- In FAULT the command is 100 %, beyond the end limit or not. -/
theorem dampingCommand_fault {r : JointRec} {w : JointView} (v : Option Nat) (beyond : Bool) (h : r.d0 ≤ 100)
    (hw : w.state = .fault) : dampingCommand r v w beyond = 100 := by
  cases beyond with
  | true => rfl
  | false => simp [dampingCommand, hw, clampNat, Nat.not_lt.mpr h]

/-- In TRACKING the base damping is raised by the deviation. -/
theorem dampingCommand_tracking (r : JointRec) (v : Option Nat) (angle : Option Int) (e : Int) :
    dampingCommand r v ⟨angle, .tracking, e⟩ false =
      clampNat r.d0 100 (baseDamping r v + e.natAbs * r.kd / 256) := rfl

/-- In STATIC and in REVERSE the command is the base damping or firm, whichever is more. -/
theorem dampingCommand_untracked {r : JointRec} {w : JointView} (v : Option Nat)
    (h : w.state = .reverse ∨ w.state = .static) :
    dampingCommand r v w false = clampNat r.d0 100 (max (baseDamping r v) 60) := by
  obtain h | h := h <;> simp [dampingCommand, h, Config.firmDamping]

/-! ### The joint unit after an update (R96) -/

section
variable (u : JointUnit) (r : JointRec) (v : Option Nat) (w : JointView) (pressure : Option Int) (now : Time)

@[simp] theorem JointUnit.update_state : (u.update r v w pressure now).state = w.state := rfl

@[simp] theorem JointUnit.update_angle : (u.update r v w pressure now).angle = w.measured.getD 0 := rfl

@[simp] theorem JointUnit.update_beyondEnd :
    (u.update r v w pressure now).beyondEnd = endCheck r w.measured u.beyondEnd := rfl

@[simp] theorem JointUnit.update_damping :
    (u.update r v w pressure now).damping = dampingCommand r v w (endCheck r w.measured u.beyondEnd) := rfl

@[simp] theorem JointUnit.update_output :
    (u.update r v w pressure now).output = (u.update r v w pressure now).damping := rfl

/-- An update sets RISK on the set condition of its joint state (R100). -/
theorem JointUnit.update_risk_of_riskSet (h : riskSet r v w = true) :
    (u.update r v w pressure now).risk = true := by
  simp [JointUnit.update, JointUnit.settleRisk, h]

end

/-! ### The command -/

/-- A joint update in ACTIVE or ISOLATED leaves the joint unit updated from its readings. -/
theorem jointUpdate_ju {s : State} {r : JointRec} {k : Nat} (hd : s.drives = true) (ho : s.own = .joint k r) :
    (jointUpdate s).ju = s.ju.update r s.refSpeed (s.jointView r) (s.channel 1).reading s.now := by
  simp [jointUpdate, ho, StationRec.joint?, hd, jointStep]

/-- JOINT_UPDATE when one is due is the joint update. -/
theorem exec_jointUpdate {dt : Nat} {s : State} (hp : s.powered = true) (hr : (s.elapse dt).jointDue = true) :
    exec (.jointUpdate dt) s = .next (jointUpdate (s.elapse dt)) :=
  runWhen_ready hp hr

/-- Settles O32: the updated unit's fields, read line by line of the table of R99. -/
theorem jointStateAndDamping : Obligations.JointStateAndDamping := by
  unfold Obligations.JointStateAndDamping
  intro dt r k s u hp hr hd ho h0
  have hju : (jointUpdate u).ju = u.ju.update r u.refSpeed (u.jointView r) (u.channel 1).reading u.now :=
    jointUpdate_ju ((s.elapse_drives dt).trans hd) ((s.elapse_own dt).trans ho)
  refine ⟨jointUpdate u, exec_jointUpdate hp hr, ?_⟩
  rw [← s.elapse_channel dt, hju]
  refine ⟨JointUnit.update_output .., fun hc => ?fault, fun m hc => ?_⟩
  case fault =>
    have hw := u.jointView_fault (r := r) hc
    have hf : (u.jointView r).state = .fault := by rw [hw]
    have hset : riskSet r u.refSpeed (u.jointView r) = true := by rw [hw]; rfl
    exact ⟨hf, by rw [JointUnit.update_angle, hw]; rfl, dampingCommand_fault _ _ h0 hf,
      JointUnit.update_risk_of_riskSet _ _ _ _ _ _ hset⟩
  have hm : (u.jointView r).measured = some m := (u.jointView_measured r).trans hc
  have hend : endCheck r (u.jointView r).measured u.ju.beyondEnd = decide (r.endLimit < m.natAbs) := by
    rw [hm]; rfl
  refine ⟨by rw [JointUnit.update_angle, hm]; rfl, u.jointView_state hc, hend, fun hb => ?beyond,
    fun hb x hrev hx => ?tracking, fun hb hw => ?untracked⟩
  case beyond => rw [JointUnit.update_damping, hend, decide_eq_true hb, dampingCommand_beyondEnd]
  case tracking =>
    rw [JointUnit.update_damping, hend, decide_eq_false (Nat.not_lt.mpr hb), u.jointView_tracking hc hrev hx]
    exact dampingCommand_tracking ..
  case untracked =>
    rw [JointUnit.update_damping, hend, decide_eq_false (Nat.not_lt.mpr hb)]
    refine dampingCommand_untracked _ ?_
    rw [u.jointView_state hc]
    by_cases hrev : u.leadingDirection = some .reverse
    · exact .inl (if_pos hrev)
    · have hx : u.expected r = none := hw.resolve_left hrev
      exact .inr (by simp [hrev, hx])

end Sys2Proof.Machine
end

section
/-! PROOF. The cab unit (06): the pedal vote, the brake demand, the DEMAND record, and what one CAB_UPDATE leaves (R127 to R130). -/

namespace Sys2Proof.Machine

/-! ### The lines of the table of R128 -/

/-- Two usable channels at most 10 apart: the half of their sum. -/
theorem pedalVote_near {x y : Int} (h : (x - y).natAbs ≤ 10) :
    pedalVote (some x) (some y) = (some ((x + y).tdiv 2), .both) := by
  simp [pedalVote, truncDiv, h]

/-- Two usable channels more than 10 apart: the larger travel. -/
theorem pedalVote_apart {x y : Int} (h : 10 < (x - y).natAbs) :
    pedalVote (some x) (some y) = (some (max x y), .both) := by
  simp [pedalVote, Nat.not_le.mpr h]

/-- Two usable channels are the quality BOTH. -/
@[simp] theorem pedalVote_both (x y : Int) : (pedalVote (some x) (some y)).2 = .both := rfl

@[simp] theorem pedalVote_first (x : Int) : pedalVote (some x) none = (some x, .one) := rfl

@[simp] theorem pedalVote_second (y : Int) : pedalVote none (some y) = (some y, .one) := rfl

@[simp] theorem pedalVote_neither : pedalVote none none = (none, .fallback) := rfl

/-! ### The brake demand (R129) -/

section
variable (p : Profile) (standstill : Bool)

theorem cabDemand_pressed {x : Int} (h : 5 < x) :
    cabDemand p standstill (some x) = ((800 * (x - 5)).tdiv 95).toNat := by
  simp [cabDemand, truncDiv, h]

theorem cabDemand_released {x : Int} (h : x ≤ 5) : cabDemand p standstill (some x) = 0 := by
  simp [cabDemand, Int.not_lt.mpr h]

@[simp] theorem cabDemand_none : cabDemand p standstill none = if standstill then 0 else p.fallback := rfl

end

/-! ### The requests (R148, R149, R184) -/

section
variable {i : CabInputs}

theorem cabHold_off (h : i.holdSwitch = false) : cabHold i = .none := by simp [cabHold, h]

theorem cabHold_on (h : i.holdSwitch = true) : cabHold i = .hold := by simp [cabHold, h]

theorem CabUnit.kneelLatchAfter_off (c : CabUnit) (h : i.holdSwitch = false) : c.kneelLatchAfter i = .none := by
  simp [CabUnit.kneelLatchAfter, cabHold_off h]

theorem Profile.doorList_off (p : Profile) (switches : BitVec 8) (h : i.holdSwitch = false) :
    p.doorList i switches = [] := by
  simp [Profile.doorList, cabHold_off h]

/-- With the hold switch on, a list holds the listed doors whose switch reads on. -/
theorem Profile.mem_doorList_on (p : Profile) (switches : BitVec 8) (h : i.holdSwitch = true) (d : Nat) :
    d ∈ p.doorList i switches ↔ (∃ x ∈ p.doors, x.number = d) ∧ switches.getLsbD (d - 1) = true := by
  simp [Profile.doorList, cabHold_on h, Profile.doorsOn]

end

/-! ### The clear count (R130, R131) -/

/-- A press counted since the first reading advances the clear count. -/
theorem CabUnit.acknowledge_clearCount_press {c : CabUnit} (hread : c.ackUnread = false) (hack : c.ack = false) :
    (c.acknowledge true).clearCount = c.clearCount + 1 := by
  simp [CabUnit.acknowledge, CabUnit.pressed, hread, hack]

/-- A button released now, or pressed at the update before, leaves the clear count. -/
theorem CabUnit.acknowledge_clearCount_keep {c : CabUnit} {level : Bool} (h : level = false ∨ c.ack = true) :
    (c.acknowledge level).clearCount = c.clearCount := by
  obtain h | h := h <;> simp [CabUnit.acknowledge, CabUnit.pressed, h]

/-! ### Writing the record (R39, R51) -/

/-- A clear event frees frozen doors and keeps the rest of the peer view. -/
@[simp] theorem clearEvent_pv (k : LockLevels) (s : State) :
    (clearEvent k s).pv.peers = s.pv.peers ∧ (clearEvent k s).pv.demand = s.pv.demand ∧
    (clearEvent k s).pv.holdStart = s.pv.holdStart :=
  ⟨rfl, rfl, rfl⟩

/-- A clear-count reading keeps the peers, the DEMAND item and the hold start. -/
@[simp] theorem clearCountRule_pv (k : LockLevels) (n : BitVec 8) (s : State) :
    (clearCountRule k n s).pv.peers = s.pv.peers ∧ (clearCountRule k n s).pv.demand = s.pv.demand ∧
    (clearCountRule k n s).pv.holdStart = s.pv.holdStart := by
  unfold clearCountRule; (repeat' split) <;> simp

@[simp] theorem writeDemand_pv (r : DemandRec) (s : State) :
    (writeDemand r s).pv.peers = s.pv.peers ∧ (writeDemand r s).pv.demand = ⟨some r, s.now, .fresh⟩ ∧
    (writeDemand r s).pv.holdStart = s.pv.holdStart := by
  simp [writeDemand]

/-- Writing the record requests a DEMAND frame and leaves the rest of the line interface. -/
@[simp] theorem writeDemand_li (r : DemandRec) (s : State) :
    (writeDemand r s).li = { s.li with pending := s.li.pending.set true .demand } := by
  simp [writeDemand, State.request]

/-! ### The update (R127) -/

/-- The telltales change no other item of the cab unit but the end of the lamp test (R192). -/
@[simp] theorem telltaleStep_cu (s : State) :
    (telltaleStep s).cu.chosen = s.cu.chosen ∧ (telltaleStep s).cu.quality = s.cu.quality ∧
    (telltaleStep s).cu.brake = s.cu.brake ∧ (telltaleStep s).cu.clearCount = s.cu.clearCount ∧
    (telltaleStep s).cu.ack = s.cu.ack ∧ (telltaleStep s).cu.ackUnread = s.cu.ackUnread ∧
    (telltaleStep s).cu.kneelLatch = s.cu.kneelLatch ∧ (telltaleStep s).cu.buttons = s.cu.buttons ∧
    (telltaleStep s).cu.lampStart = s.cu.lampStart := by
  unfold telltaleStep; split <;> simp

/-- The state from which an update in ACTIVE or ISOLATED forms its record: the acknowledge button read, then the vote and the
buttons. -/
def State.voted (i : CabInputs) (s : State) : State :=
  let t := { s with cu := s.cu.acknowledge i.acknowledge }
  { t with cu := t.votedCab i }

/-- An update in ACTIVE or ISOLATED writes the record formed from the voted state, and then judges the telltales. -/
theorem cabUpdate_eq {i : CabInputs} {s : State} (hd : s.drives = true) :
    cabUpdate i s =
      let t := telltaleStep (writeDemand ((s.voted i).formedDemand i) (s.voted i))
      { t with sched := { t.sched with cab := some (later s.now Config.cabPeriod) } } := by
  simp only [cabUpdate, if_pos hd]
  rfl

section
variable {i : CabInputs} {s : State}

/-- The cab unit's items after an update in ACTIVE or ISOLATED (R128, R129, R130, R167). -/
theorem cabUpdate_cu (hd : s.drives = true) :
    (cabUpdate i s).cu.chosen = s.vote.1 ∧ (cabUpdate i s).cu.quality = s.vote.2 ∧
    (cabUpdate i s).cu.brake = cabDemand s.sc.prof s.standstill s.vote.1 ∧
    (cabUpdate i s).cu.kneelLatch = s.cu.kneelLatchAfter i ∧
    (cabUpdate i s).cu.clearCount = (s.cu.acknowledge i.acknowledge).clearCount := by
  rw [cabUpdate_eq hd]
  simp only [telltaleStep_cu, writeDemand_frame]
  exact ⟨rfl, rfl, rfl, rfl, rfl⟩

/-- The peer view after an update in ACTIVE or ISOLATED: the record stands as the own DEMAND entry (R39). -/
theorem cabUpdate_pv (hd : s.drives = true) :
    (cabUpdate i s).pv.peers = s.pv.peers ∧
    (cabUpdate i s).pv.demand = ⟨some ((s.voted i).formedDemand i), s.now, .fresh⟩ ∧
    (cabUpdate i s).pv.holdStart = s.pv.holdStart := by
  rw [cabUpdate_eq hd]
  simp only [telltaleStep_frame, writeDemand_pv]
  exact ⟨rfl, rfl, rfl⟩

theorem cabUpdate_li (hd : s.drives = true) :
    (cabUpdate i s).li = { s.li with pending := s.li.pending.set true .demand } := by
  rw [cabUpdate_eq hd]
  simp only [telltaleStep_frame, writeDemand_li]
  rfl

/-- The record formed carries the cab unit's items as the update leaves them, and the requests by the switches (R130). -/
theorem formedDemand_voted (hd : s.drives = true) :
    (s.voted i).formedDemand i =
      { seq := s.li.demandSeq
        brake := (cabUpdate i s).cu.brake
        quality := (cabUpdate i s).cu.quality
        hold := cabHold i
        kneel := (cabUpdate i s).cu.kneelLatch
        clear := (cabUpdate i s).cu.clearCount
        release := s.sc.prof.doorList i i.release
        opens := s.sc.prof.doorList i i.opens } := by
  obtain ⟨-, hquality, hbrake, hkneel, hclear⟩ := cabUpdate_cu (i := i) hd
  rw [hquality, hbrake, hkneel, hclear]
  rfl

end

/-! ### The command -/

/-- CAB_UPDATE when one is due is the cab update. -/
theorem exec_cabUpdate {dt : Nat} {i : CabInputs} {s : State} (hp : s.powered = true)
    (hr : (s.elapse dt).cabDue = true) : exec (.cabUpdate dt i) s = .next (cabUpdate i (s.elapse dt)) :=
  runWhen_ready hp hr

/-- The vote reads the channels, which time leaves. -/
theorem State.elapse_vote (dt : Nat) (s : State) :
    (s.elapse dt).vote = pedalVote (s.channel 0).goodReading (s.channel 1).goodReading := by
  simp [State.vote]

/-- Settles O36: the vote line by line of the table of R128, and the record field by field of the updated cab unit. -/
theorem cabFormsDemand : Obligations.CabFormsDemand := by
  unfold Obligations.CabFormsDemand
  intro dt i s u a b hp hr hd
  have hu : u.drives = true := (s.elapse_drives dt).trans hd
  obtain ⟨-, hsc, -, hpc, hcs, hli, hpv, hpu, -, hju, hbu, -, -, -, hcu, -⟩ := s.elapse_frame dt
  have hvote : u.vote = pedalVote a b := s.elapse_vote dt
  obtain ⟨hchosen, hquality, hbrake, hkneel, hclear⟩ := cabUpdate_cu (i := i) hu
  obtain ⟨hpeers, hdemand, hhold⟩ := cabUpdate_pv (i := i) hu
  have hline := cabUpdate_li (i := i) hu
  have hrec := formedDemand_voted (i := i) hu
  have hbrakeOf : (cabUpdate i u).cu.brake = cabDemand s.sc.prof u.standstill (cabUpdate i u).cu.chosen := by
    rw [hbrake, hchosen, hsc]
  rw [hvote] at hchosen hquality
  rw [hcu] at hkneel hclear
  rw [hli] at hline hrec
  rw [hsc] at hrec
  refine ⟨cabUpdate i u, _, exec_cabUpdate hp hr, hdemand, by rw [hline]; rfl, fun x y ha hb => ?both,
    fun x ha hb => ?first, fun y ha hb => ?second, fun ha hb => ?neither, fun x hx h => ?pressed,
    fun x hx h => ?released, fun hx => ?fallback, ?_⟩
  case both =>
    rw [hchosen, hquality, ha, hb]
    exact ⟨rfl, fun h => by rw [pedalVote_near h], fun h => by rw [pedalVote_apart h]⟩
  case first | second | neither => rw [hchosen, hquality, ha, hb]; exact ⟨rfl, rfl⟩
  case pressed => rw [hbrakeOf, hx, cabDemand_pressed _ _ h]
  case released => rw [hbrakeOf, hx, cabDemand_released _ _ h]
  case fallback => rw [hbrakeOf, hx, cabDemand_none]
  rw [hrec]
  refine ⟨rfl, rfl, rfl, rfl, rfl, rfl, fun hoff => ?off, fun hon => ?on, fun hread hpress hack => ?press,
    fun hkeep => ?keep, ?frame⟩
  case off => exact ⟨hkneel.trans (CabUnit.kneelLatchAfter_off _ hoff), Profile.doorList_off _ _ hoff,
    Profile.doorList_off _ _ hoff⟩
  case on => exact ⟨Profile.mem_doorList_on _ _ hon, Profile.mem_doorList_on _ _ hon⟩
  case press => rw [hclear, hpress, CabUnit.acknowledge_clearCount_press hread hack]
  case keep => rw [hclear, CabUnit.acknowledge_clearCount_keep hkeep]
  case frame =>
    obtain ⟨-, -, hsc', hpc', hcs', hpu', hju', hbu', -⟩ := cabUpdate_frame i u
    exact ⟨hsc'.trans hsc, hpc'.trans hpc, hcs'.trans hcs, hpu'.trans hpu, hju'.trans hju, hbu'.trans hbu,
      by rw [hline], by rw [hpeers, hpv], by rw [hhold, hpv]⟩

end Sys2Proof.Machine
end

section
/-! PROOF. Stop hold (07): which operations write the hold valve, and when a hold update releases it (R132, R140, R146). -/

namespace Sys2Proof.Machine

/-! ### The transitions of the hold unit -/

@[simp] theorem HoldUnit.toApplying_valve (h : HoldUnit) (now : Time) : (h.toApplying now).valve = false := rfl

@[simp] theorem HoldUnit.toHeld_valve (h : HoldUnit) : h.toHeld.valve = h.valve := rfl

@[simp] theorem HoldUnit.toReleasing_fields (h : HoldUnit) (now : Time) :
    (h.toReleasing now).state = .releasing ∧ (h.toReleasing now).releaseStart = some now ∧
    (h.toReleasing now).applyStart = none ∧ (h.toReleasing now).confirmStart = none :=
  ⟨rfl, rfl, rfl, rfl⟩

@[simp] theorem HoldUnit.reset_valve (latch : Bool) : (HoldUnit.reset latch).valve = false := rfl

/-- A clear event leaves the valve (R142). -/
@[simp] theorem HoldUnit.clear_valve (now : Time) (h : HoldUnit) : (h.clear now).valve = h.valve := by
  unfold HoldUnit.clear; split <;> rfl

/-- On entry to INERT the valve is applied at every role (R132, R145). -/
@[simp] theorem HoldUnit.enterInert_valve (axle : Bool) (h : HoldUnit) : (h.enterInert axle).valve = false := by
  cases axle <;> rfl

/-! ### The hold update (R133) -/

/-- The measure and the fault check leave the valve. -/
@[simp] theorem State.holdMeasured_valve (s : State) : s.holdMeasured.valve = s.hu.valve := rfl

/-- A hold update leaves the unit that its transition gives. -/
@[simp] theorem holdUpdate_hu (s : State) : (holdUpdate s).hu = s.holdAfter := by simp [holdUpdate]

/-- The four release conditions (R140). -/
theorem State.releaseConditions_iff (s : State) (latch : Bool) :
    s.releaseConditions latch = true ↔
      s.effectiveDemand.hold = .none ∧ s.allDoorsLocked = true ∧ s.lu.level = .ride ∧ latch = false := by
  simp [State.releaseConditions, and_assoc]

/-- The fault check sets the HOLD latch and never clears it (R137). -/
theorem State.latch_of_holdMeasured {s : State} (h : s.holdMeasured.latch = false) : s.hu.latch = false := by
  obtain ⟨hlatch, -⟩ := Bool.or_eq_false_iff.mp h
  exact hlatch

/-- The one transition that energises an applied valve is that to RELEASING, from APPLYING or RELEASE_PENDING. -/
theorem State.holdTransition_releases {s : State} {h : HoldUnit} {release : Bool} (hv : h.valve = false)
    (ht : (s.holdTransition h release).valve = true) :
    release = true ∧ (s.hu.state = .applying ∨ s.hu.state = .releasePending) ∧
      s.holdTransition h release = h.toReleasing s.now := by
  cases hst : s.hu.state <;> simp only [State.holdTransition, hst] at ht ⊢
  case off | held | releasing => simp [apply_ite HoldUnit.valve, hv] at ht
  case applying =>
    cases release with
    | true => exact ⟨rfl, .inl trivial, rfl⟩
    | false => simp [apply_ite HoldUnit.valve, hv] at ht
  case releasePending =>
    split at ht
    · simp [hv] at ht
    next hq =>
      cases release with
      | true => exact ⟨rfl, .inr trivial, by simp [hq]⟩
      | false => simp [hv] at ht

/-- A hold update that energises an applied valve is one in ACTIVE or ISOLATED that finds the release conditions (R140, R145). -/
theorem State.holdAfter_releases {s : State} (hv : s.hu.valve = false) (ht : s.holdAfter.valve = true) :
    s.drives = true ∧ s.releaseConditions s.holdMeasured.latch = true ∧
      (s.hu.state = .applying ∨ s.hu.state = .releasePending) ∧ s.holdAfter = s.holdMeasured.toReleasing s.now := by
  cases hd : s.drives with
  | true =>
    have hafter : s.holdAfter = s.holdTransition s.holdMeasured (s.releaseConditions s.holdMeasured.latch) := if_pos hd
    rw [hafter] at ht ⊢
    exact ⟨rfl, State.holdTransition_releases hv ht⟩
  | false => simp [State.holdAfter, hd, State.holdListening, apply_ite HoldUnit.valve, hv] at ht

/-! ### Every other operation -/

section
variable (k : LockLevels) (s : State)

@[simp] theorem clearEvent_valve : (clearEvent k s).hu.valve = s.hu.valve := by simp [clearEvent]

@[simp] theorem clearCountRule_valve (n : BitVec 8) : (clearCountRule k n s).hu.valve = s.hu.valve := by
  unfold clearCountRule; (repeat' split) <;> simp

@[simp] theorem acceptDemand_valve (r : DemandRec) (a : Time) : (acceptDemand k r a s).hu.valve = s.hu.valve := by
  simp [acceptDemand]

@[simp] theorem handOn_valve (n : Fin 8) (f : Frame) (a : Time) : (handOn k n f a s).hu.valve = s.hu.valve := by
  cases f <;> simp [handOn]

@[simp] theorem writeDemand_valve (r : DemandRec) : (writeDemand r s).hu.valve = s.hu.valve := by simp [writeDemand]

@[simp] theorem cabUpdate_valve (i : CabInputs) : (cabUpdate i s).hu.valve = s.hu.valve := by
  unfold cabUpdate cabDrive; split <;> simp

/-- The entry to LISTENING sets the apply start alone (R132). -/
@[simp] theorem enterListening_valve : (enterListening s).hu.valve = s.hu.valve := by
  simp only [enterListening]; split <;> simp

@[simp] theorem leavePowerup_valve : (leavePowerup s).hu.valve = s.hu.valve := by
  simp only [leavePowerup]; split <;> simp

@[simp] theorem supplySettled_valve : (supplySettled s).hu.valve = s.hu.valve := by
  simp only [supplySettled]; split <;> simp

@[simp] theorem restartInputHigh_valve : (restartInputHigh s).hu.valve = s.hu.valve := by
  simp only [restartInputHigh]; (repeat' split) <;> simp

@[simp] theorem enterInert_valve : (enterInert k s).hu.valve = false := by simp [enterInert, inertUnits]

@[simp] theorem failProfile_valve (crc : Bool) : (failProfile k crc s).hu.valve = false := by simp [failProfile]

@[simp] theorem restartValues_valve : (restartValues k s).hu.valve = false := rfl

@[simp] theorem powerOn_valve (n : Fin 8) (b : Bool) : (powerOn n b k s).hu.valve = false := rfl

@[simp] theorem supplyLoss_valve : (supplyLoss s).hu.valve = false := rfl

/-- A restart out of INERT applies the valve (R146). -/
theorem restart_valve (h : s.sc.station ≠ .inert) : (restart k s).hu.valve = false := by simp [restart, h]

end

section
variable {k : LockLevels} {s : State}

/-- A restart, taken in INERT or not, leaves an applied valve applied. -/
theorem restart_keeps_applied (h : s.hu.valve = false) : (restart k s).hu.valve = false := by
  unfold restart; split <;> simp [h]

theorem profileLoadComplete_keeps_applied {m : List Byte} (h : s.hu.valve = false) :
    (profileLoadComplete m k s).hu.valve = false := by
  unfold profileLoadComplete; (repeat' split) <;> simp [h]

/-- A judged frame is handed on, or raises an event, or takes a duplicated station to INERT (R27, R38). -/
theorem applyVerdict_keeps_applied {a : Time} {v : Verdict} (h : s.hu.valve = false) :
    (applyVerdict k a v s).hu.valve = false := by
  unfold applyVerdict; (repeat' split) <;> simp [h]

theorem frameReceived_keeps_applied (h : s.hu.valve = false) : (frameReceived k s).hu.valve = false := by
  unfold frameReceived
  split
  · exact h
  · dsimp only
    split
    · exact applyVerdict_keeps_applied h
    · exact h

end

/-! ### The commands -/

/-- The command's effect is a hold update: HOLD_UPDATE and the three hold times (R133, log entry 2). -/
def updatesHold : Instr → Bool
  | .holdUpdate _ | .confirmTimeEnd _ | .applyFaultTimeEnd _ | .releaseTimeEnd _ => true
  | _ => false

/-- A command that makes a hold update makes one that is due. -/
theorem effectOf_updatesHold {c : Instr} {s : State} (hc : updatesHold c = true) (hr : readyOf c s = true) :
    s.holdDue = true ∧ effectOf c s = holdUpdate s := by
  cases c <;> cases hc
  case holdUpdate => exact ⟨hr, rfl⟩
  case confirmTimeEnd | applyFaultTimeEnd =>
    obtain ⟨hdue, -⟩ := Bool.and_eq_true_iff.mp hr
    exact ⟨hdue, rfl⟩
  case releaseTimeEnd =>
    simp only [readyOf, State.releaseDue, Bool.and_eq_true] at hr
    obtain ⟨⟨hdue, -⟩, -⟩ := hr
    exact ⟨hdue, rfl⟩

/-- Every other command leaves an applied valve applied. -/
theorem effectOf_keeps_applied {c : Instr} {s : State} (hc : updatesHold c = false) (h : s.hu.valve = false) :
    (effectOf c s).hu.valve = false := by
  cases c
  case holdUpdate | confirmTimeEnd | applyFaultTimeEnd | releaseTimeEnd => cases hc
  case restart => exact restart_keeps_applied h
  case profileLoadComplete => exact profileLoadComplete_keeps_applied h
  case frameReceived => exact frameReceived_keeps_applied h
  all_goals simp [effectOf, h]

/-- A command that releases an applied valve is a due hold update. -/
theorem exec_releases {c : Instr} {s t : State} (h : exec c s = .next t) (hv : s.hu.valve = false)
    (ht : t.hu.valve = true) :
    (s.elapse (elapsedOf c)).holdDue = true ∧ t = holdUpdate (s.elapse (elapsedOf c)) := by
  have hu : (s.elapse (elapsedOf c)).hu.valve = false := by simpa using hv
  obtain ⟨n, b, l, -, rfl⟩ | rfl | ⟨-, hr, rfl⟩ := exec_cases h
  · simp at ht
  · simp [hv] at ht
  · cases hc : updatesHold c with
    | true => exact effectOf_updatesHold hc hr
    | false => simp [effectOf_keeps_applied hc hu] at ht

/-- Settles O40: a releasing command is a due hold update, whose one releasing transition stands under R140. -/
theorem holdReleasesOnly : Obligations.HoldReleasesOnly := by
  refine ⟨fun c s t h hv ht => ?release, fun n b l s => ⟨_, rfl, powerOn_valve l s n b⟩,
    fun dt lowFor l s hp hi hlow => ?restart⟩
  case release =>
    intro u
    obtain ⟨hdue, rfl⟩ := exec_releases h hv ht
    have huv : u.hu.valve = false := by simpa [u] using hv
    rw [holdUpdate_hu] at ht
    obtain ⟨hdrives, hcond, hstate, hafter⟩ := State.holdAfter_releases huv ht
    obtain ⟨hnone, hdoors, hride, hlatch⟩ := (u.releaseConditions_iff _).mp hcond
    have hlatch := State.latch_of_holdMeasured hlatch
    obtain ⟨hst, hrel, happ, hconf⟩ := u.holdMeasured.toReleasing_fields u.now
    rw [holdUpdate_hu, hafter]
    simp only [u, State.elapse_drives, State.elapse_frame] at hdrives hride hlatch hstate
    exact ⟨hdrives, hdue, hnone, hdoors, hride, hlatch, hstate, hst, hrel, happ, hconf⟩
  case restart =>
    refine ⟨_, runWhen_ready hp (decide_eq_true hlow), restart_valve l _ ?_⟩
    simpa using hi

end Sys2Proof.Machine
end

section
/-! PROOF. What the shared operations leave in each unit, and the ways in which a command can reach the units that a frame, a
profile load or a cab update only touch through them (R27, R51, R185 to R191). -/

namespace Sys2Proof.Machine

/-! ### What a command reads after local time has passed -/

@[simp] theorem State.elapse_runs (dt : Nat) (s : State) : (s.elapse dt).runs = s.runs := by
  simp [State.runs]

/-- The own record depends on station control alone. -/
theorem State.own_congr {s t : State} (h : t.sc = s.sc) : t.own = s.own := by
  rw [State.own, State.own, h]

/-! ### Entering INERT, a restart, entering LISTENING -/

@[simp] theorem State.requestFinalNotice_summary (s : State) : s.requestFinalNotice.li.summary = s.li.summary := by
  unfold State.requestFinalNotice; split <;> simp

@[simp] theorem enterInert_units (k : LockLevels) (s : State) :
    (enterInert k s).sc = { s.sc with station := .inert, listenStart := none } ∧
    (enterInert k s).sched = inertSchedules s.sc.prof s.now ∧ (enterInert k s).pc = PulseCapture.reset ∧
    (enterInert k s).cs = Scan.reset ∧ (enterInert k s).li.summary = s.li.summary ∧
    (enterInert k s).pu = PathUnit.reset s.sc.prof.pathStep ∧ (enterInert k s).su = SteeringUnit.reset s.su.latch ∧
    (enterInert k s).ju = JointUnit.reset ∧ (enterInert k s).bu = BrakeUnit.reset ∧
    (enterInert k s).hu = s.hu.enterInert s.own.isAxle ∧
    (enterInert k s).lu = LevelUnit.reset s.sc.prof.rideHeight s.lu.levelLatch s.lu.kneelLatch ∧
    (enterInert k s).du = { s.du with doors := withLocks resetDoor k s.du.doors, queue := [] } ∧
    (enterInert k s).cu = { s.cu with telltales := s.cu.telltales.allLit } := by
  simp [enterInert, inertUnits]

@[simp] theorem enterListening_units (s : State) :
    (enterListening s).sc =
      { s.sc with station := .listening, heard := false, listenStart := some s.now } ∧
    (enterListening s).cs = { s.cs with conv := firstConversion s.own } ∧
    (enterListening s).li.summary = s.li.summary ∧
    (enterListening s).su = { s.su with state := if s.own.isLeading then .leading else s.su.state } ∧
    (enterListening s).hu = { s.hu with applyStart := if s.own.isAxle then some s.now else s.hu.applyStart } := by
  have h : s.startIdleWait.own = s.own := State.own_congr (by simp)
  refine ⟨rfl, by simp [enterListening, h], rfl, ?_, ?_⟩
  · simp only [enterListening, h]; split <;> simp
  · simp only [enterListening, h]; split <;> simp

/-! ### The clear event (R51) -/

@[simp] theorem clearEvent_units (k : LockLevels) (s : State) :
    (clearEvent k s).su = { s.su with latch := false } ∧ (clearEvent k s).hu = s.hu.clear s.now ∧
    (clearEvent k s).lu = { s.lu with levelLatch := false } ∧
    (clearEvent k s).du = { s.du with doors := withLocks (clearDoor s.now) k s.du.doors } := by
  simp [clearEvent]

/-- A clear-count reading is the first one, repeats the acted-on count, or is a clear event (R51). -/
theorem clearCountRule_cases (k : LockLevels) (n : BitVec 8) (s : State) :
    (s.pv.actedClear = none ∧ clearCountRule k n s = { s with pv := { s.pv with actedClear := some n } }) ∨
    (s.pv.actedClear = some n ∧ clearCountRule k n s = s) ∨
    (∃ c, s.pv.actedClear = some c ∧ c ≠ n ∧
      clearCountRule k n s = clearEvent k { s with pv := { s.pv with actedClear := some n } }) := by
  unfold clearCountRule
  cases h : s.pv.actedClear with
  | none => exact .inl ⟨rfl, rfl⟩
  | some c =>
    by_cases hc : c = n
    · subst hc
      exact .inr (.inl ⟨rfl, if_pos rfl⟩)
    · exact .inr (.inr ⟨c, rfl, hc, if_neg hc⟩)

/-- The four latch owners stay as they were. -/
structure State.OwnersKept (s t : State) : Prop where
  su : t.su = s.su
  hu : t.hu = s.hu
  lu : t.lu = s.lu
  du : t.du = s.du

/-- A clear count other than the acted-on one has been acted on (R51). -/
def State.ActsClear (s t : State) : Prop := ∃ a b, s.pv.actedClear = some a ∧ t.pv.actedClear = some b ∧ a ≠ b

/-- The four latch owners are as a clear event leaves them (R51). -/
structure State.OwnersCleared (k : LockLevels) (s t : State) : Prop where
  acts : s.ActsClear t
  su : t.su = { s.su with latch := false }
  hu : t.hu = s.hu.clear s.now
  lu : t.lu = { s.lu with levelLatch := false }
  du : t.du = { s.du with doors := withLocks (clearDoor s.now) k s.du.doors }

/-- A clear-count reading keeps the latch owners or clears them. -/
theorem clearCountRule_owners (k : LockLevels) (n : BitVec 8) (s : State) :
    s.OwnersKept (clearCountRule k n s) ∨
      s.OwnersCleared k (clearCountRule k n s) := by
  obtain ⟨-, h⟩ | ⟨-, h⟩ | ⟨c, hc, hn, h⟩ := clearCountRule_cases k n s
  · exact .inl (by rw [h]; exact ⟨rfl, rfl, rfl, rfl⟩)
  · exact .inl (by rw [h]; exact ⟨rfl, rfl, rfl, rfl⟩)
  · refine .inr ⟨⟨c, n, hc, by rw [h]; rfl, hn⟩, ?_, ?_, ?_, ?_⟩ <;> rw [h] <;> simp

/-- A cab update keeps the latch owners, or has written a DEMAND whose clear count is a clear event (R51, R130). -/
theorem cabUpdate_owners (i : CabInputs) (s : State) :
    s.OwnersKept (cabUpdate i s) ∨ s.OwnersCleared ⟨false, false⟩ (cabUpdate i s) := by
  cases hd : s.drives with
  | false => exact .inl (by constructor <;> simp [cabUpdate, hd])
  | true =>
    obtain ⟨hs, hh, hl, hdu⟩ | ⟨hc, hs, hh, hl, hdu⟩ := clearCountRule_owners ⟨false, false⟩
      (s.cu.acknowledge i.acknowledge).clearCount
      { s.voted i with pv := { (s.voted i).pv with demand := ⟨some ((s.voted i).formedDemand i), s.now, .fresh⟩ } }
    · refine .inl ?_
      rw [cabUpdate_eq hd]
      constructor <;> simp only [telltaleStep_frame, writeDemand, State.request_frame]
      exacts [hs, hh, hl, hdu]
    · refine .inr ?_
      rw [cabUpdate_eq hd]
      constructor <;> simp only [State.ActsClear, telltaleStep_frame, writeDemand, State.request_frame]
      exacts [hc, hs, hh, hl, hdu]

/-! ### A frame received (R27) -/

/-- An accepted frame keeps the latch owners, or is a DEMAND whose clear count is a clear event (R51). -/
theorem handOn_owners (k : LockLevels) (n : Fin 8) (f : Frame) (a : Time) (s : State) :
    s.OwnersKept (handOn k n f a s) ∨ s.OwnersCleared k (handOn k n f a s) := by
  cases f with
  | status r => exact .inl (by constructor <;> simp [handOn])
  | path p => exact .inl (by constructor <;> simp [handOn])
  | notice ks => exact .inl (by constructor <;> simp [handOn])
  | demand r =>
    obtain ⟨hs, hh, hl, hdu⟩ | ⟨hc, hs, hh, hl, hdu⟩ := clearCountRule_owners k r.clear
      { s with pv := { s.pv with
          holdStart := holdStartAfter s.pv.demand s.pv.holdStart r a
          demand := ⟨some r, a, .fresh⟩
          episode := false
          frozen := [] } }
    · exact .inl ⟨hs, hh, hl, hdu⟩
    · exact .inr ⟨hc, hs, hh, hl, hdu⟩

/-- The state in which a complete frame is judged: the receive half has given it up. -/
def State.frameTaken (s : State) : State := { s with li := { s.li with complete := none } }

/-- A duplicate found in LISTENING: the event is raised and the flag set, before the entry to INERT (R38). -/
def State.duplicateFound (s : State) : State :=
  { s.raise .duplicateStation with sc := { s.sc with duplicate := true } }

/-- What FRAME_RECEIVED can do: change the line interface alone, enter INERT on a duplicate, or accept a frame (R27, R38). -/
theorem frameReceived_cases (k : LockLevels) (s : State) :
    (∃ li, frameReceived k s = { s with li := li } ∧
      (li.summary = s.li.summary ∨ ∃ e, li.summary = insertKind e s.li.summary)) ∨
    (s.sc.station = .listening ∧ frameReceived k s = enterInert k s.frameTaken.duplicateFound) ∨
    (∃ f n x, s.li.complete = some f ∧ s.runs = true ∧ judge s.sc.prof s.sc.strap f.chars = .accepted n x ∧
      frameReceived k s = reportPeer (s.arrivalOf f) (handOn k n x (s.arrivalOf f) s.frameTaken)) := by
  unfold frameReceived
  cases hf : s.li.complete with
  | none => exact .inl ⟨s.li, rfl, .inl rfl⟩
  | some f =>
    cases hr : s.runs with
    | false => exact .inl ⟨_, rfl, .inl rfl⟩
    | true =>
      have raised (e : EventKind) : ∃ li, s.frameTaken.raise e = { s with li := li } ∧
          (li.summary = s.li.summary ∨ ∃ e, li.summary = insertKind e s.li.summary) := ⟨_, rfl, .inr ⟨e, rfl⟩⟩
      simp only [applyVerdict, if_true]
      cases hv : judge s.sc.prof s.sc.strap f.chars with
      | discarded => exact .inl ⟨_, rfl, .inl rfl⟩
      | malformed => exact .inl (raised .malformedFrame)
      | unlisted => exact .inl (raised .unlistedStation)
      | duplicate =>
        dsimp only
        split
        · next h => exact .inr (.inl ⟨h, rfl⟩)
        · exact .inl (raised .duplicateStation)
      | accepted n x => exact .inr (.inr ⟨f, n, x, rfl, trivial, hv, rfl⟩)

/-! ### Leaving POWERUP, the profile load -/

/-- Leaving POWERUP enters LISTENING after a passed check, and PROFILE_LOAD otherwise (R185). -/
theorem leavePowerup_cases (s : State) :
    leavePowerup s = enterListening { s with cu := { s.cu with lampStart := some s.now } } ∨
    leavePowerup s =
      { s with cu := { s.cu with lampStart := some s.now }, sc := { s.sc with station := .profileLoad } } := by
  unfold leavePowerup
  dsimp only
  split
  · exact .inl rfl
  · exact .inr rfl
  · exact .inr rfl

/-- SUPPLY_SETTLED sets its flag, and may leave POWERUP with it (R185). -/
theorem supplySettled_cases (s : State) :
    supplySettled s = { s with sc := { s.sc with settled := true } } ∨
    supplySettled s = leavePowerup { s with sc := { s.sc with settled := true } } := by
  unfold supplySettled
  dsimp only
  split
  · exact .inl rfl
  · exact .inr rfl

/-- RESTART_INPUT_HIGH clears its flag; with it the station leaves POWERUP, or starts its line in INERT (R185, R191). -/
theorem restartInputHigh_cases (s : State) :
    restartInputHigh s = { s with sc := { s.sc with restartLow := false } } ∨
    (s.sc.station = .powerup ∧ restartInputHigh s = leavePowerup { s with sc := { s.sc with restartLow := false } }) ∨
    (s.sc.station = .inert ∧ restartInputHigh s = inertInputHigh { s with sc := { s.sc with restartLow := false } }) := by
  unfold restartInputHigh
  dsimp only
  split
  next h => exact .inr (.inr ⟨h, rfl⟩)
  next h =>
    split
    · exact .inr (.inl ⟨h, rfl⟩)
    · exact .inl rfl
  all_goals exact .inl rfl

@[simp] theorem useProfile_units (p : Profile) (s : State) :
    (useProfile p s).sc = { s.sc with prof := p } ∧ (useProfile p s).pu = PathUnit.reset p.pathStep ∧
    (useProfile p s).lu =
      { s.lu with left := { s.lu.left with target := p.rideHeight }, right := { s.lu.right with target := p.rideHeight } } ∧
    (useProfile p s).du = { s.du with doors := doorTable p s.sc.strap s.du.resetLocks } :=
  ⟨rfl, rfl, rfl, rfl⟩

@[simp] theorem storeImage_sc (m : List Byte) (s : State) :
    (storeImage m s).sc = { s.sc with image := m, signature := storedCrc m } := rfl

@[simp] theorem useImage_units (m : List Byte) (s : State) :
    (useImage m s).sc = { s.sc with image := m, signature := storedCrc m, prof := (readImage m).clamped } ∧
    (useImage m s).pu = PathUnit.reset (readImage m).clamped.pathStep ∧
    (useImage m s).lu = { s.lu with
      left := { s.lu.left with target := (readImage m).clamped.rideHeight }
      right := { s.lu.right with target := (readImage m).clamped.rideHeight } } ∧
    (useImage m s).du = { s.du with doors := doorTable (readImage m).clamped s.sc.strap s.du.resetLocks } := by
  simp [useImage]

/-- A failed profile check is an entry to INERT, the check's result set and the receive half waiting (R187, R191). -/
theorem failProfile_eq (k : LockLevels) (crc : Bool) (s : State) :
    failProfile k crc s = enterInert k { s with sc := { s.sc with check := .failed, crcFailed := crc } }.startIdleWait := rfl

/-- What PROFILE_LOAD_COMPLETE can do (R187). -/
theorem profileLoadComplete_cases (m : List Byte) (k : LockLevels) (s : State) :
    (crcHolds m = false ∧
      profileLoadComplete m k s = failProfile k true (useProfile Profile.unloaded (storeImage m s))) ∨
    (crcHolds m = true ∧ (readImage m).checksHold s.sc.strap = true ∧ profileLoadComplete m k s =
      enterListening { useImage m s with sc := { (useImage m s).sc with check := .passed, crcFailed := false } }) ∨
    (crcHolds m = true ∧ (readImage m).checksHold s.sc.strap = false ∧
      profileLoadComplete m k s = failProfile k false (useImage m s)) := by
  unfold profileLoadComplete
  cases crcHolds m with
  | false => exact .inl ⟨rfl, rfl⟩
  | true =>
    cases (readImage m).checksHold s.sc.strap with
    | true => exact .inr (.inl ⟨rfl, rfl, rfl⟩)
    | false => exact .inr (.inr ⟨rfl, rfl, rfl⟩)

/-! ### Steps and commands -/

/-- What POWER_ON establishes, local time keeps, and the effect of every ready command keeps, every step keeps. -/
theorem step_keeps {P : State → Prop} (hpending : ∀ s l, P s → P { s with pending := l })
    (hon : ∀ n b l s, P (powerOn n b l s)) (helapse : ∀ dt s, P s → P (s.elapse dt))
    (heffect : ∀ c s, P s → readyOf c s = true → P (effectOf c s)) {s t : State} (hs : P s) (h : step s = .next t) :
    P t := by
  obtain ⟨-, rfl⟩ | ⟨c, rest, -, hc⟩ := step_cases h
  · exact helapse _ _ hs
  · obtain ⟨n, b, l, -, rfl⟩ | rfl | ⟨-, hr, rfl⟩ := exec_cases hc
    · exact hon ..
    · exact helapse _ _ (hpending _ _ hs)
    · exact heffect _ _ (helapse _ _ (hpending _ _ hs)) hr

/-! ### What a command of another unit does to the steering, hold and level units -/

/-- The command steps the steering, hold or level unit itself. -/
def stepsOwner : Instr → Bool
  | .wheelEdge .. | .steeringUpdate .. | .lockReleaseTimeEnd .. | .centringSettleEnd .. | .trackingTimeEnd .. => true
  | .holdUpdate .. | .confirmTimeEnd .. | .applyFaultTimeEnd .. | .releaseTimeEnd .. => true
  | .levelUpdate .. | .pulseLimitEnd .. | .settleTimeEnd .. | .skirtContact .. | .closureComplete .. => true
  | _ => false

/-- The steering, hold and level units that every other command may leave (R51, R70, R93, R132, R145, R146, R164, R165). -/
inductive State.OwnerMove (c : Instr) (s t : State) : SteeringUnit → HoldUnit → LevelUnit → Prop
  | kept : s.OwnerMove c t s.su s.hu s.lu
  | cleared (acts : s.ActsClear t) :
      s.OwnerMove c t { s.su with latch := false } (s.hu.clear s.now) { s.lu with levelLatch := false }
  | inert (axle : Bool) (ride : Nat) : s.OwnerMove c t (SteeringUnit.reset s.su.latch) (s.hu.enterInert axle)
      (LevelUnit.reset ride s.lu.levelLatch s.lu.kneelLatch)
  | restarted (ride : Nat) : s.OwnerMove c t (SteeringUnit.reset s.su.latch) (HoldUnit.reset s.hu.latch)
      { LevelUnit.reset ride s.lu.levelLatch s.lu.kneelLatch with restartFault := s.lu.levelLatch }
  | listening (leads : Bool) (start : Option Time) (hl : leads = true → t.own.isLeading = true) : s.OwnerMove c t
      { s.su with state := if leads then .leading else s.su.state } { s.hu with applyStart := start } s.lu
  | profiled (leads : Bool) (start : Option Time) (ride : Nat) (hl : leads = true → t.own.isLeading = true) : s.OwnerMove c t
      { s.su with state := if leads then .leading else s.su.state } { s.hu with applyStart := start }
      { s.lu with left := { s.lu.left with target := ride }, right := { s.lu.right with target := ride } }
  | unpowered (ride : Nat) (h : isSupply c = true) :
      s.OwnerMove c t (SteeringUnit.reset false) (HoldUnit.reset false) (LevelUnit.reset ride false false)

theorem State.ownerMove_of_owners {c : Instr} {k : LockLevels} {s t : State} (h : s.OwnersKept t ∨ s.OwnersCleared k t) :
    s.OwnerMove c t t.su t.hu t.lu := by
  obtain ⟨hs, hh, hl, -⟩ | ⟨hc, hs, hh, hl, -⟩ := h <;> rw [hs, hh, hl]
  · exact .kept
  · exact .cleared hc

/-- Entering LISTENING leaves the own record. -/
theorem enterListening_own (s : State) : (enterListening s).own = s.own := by
  rw [State.own, State.own, (enterListening_units s).1]

theorem leavePowerup_ownerMove {c : Instr} (sc : Control) (s : State) : s.OwnerMove c (leavePowerup { s with sc := sc })
    (leavePowerup { s with sc := sc }).su (leavePowerup { s with sc := sc }).hu (leavePowerup { s with sc := sc }).lu := by
  obtain e | e := leavePowerup_cases { s with sc := sc } <;> rw [e]
  · simpa using State.OwnerMove.listening (s := s) _ _ fun h => (by rw [enterListening_own]; exact h)
  · exact .kept

theorem profileLoadComplete_ownerMove {c : Instr} (m : List Byte) (k : LockLevels) (s : State) :
    s.OwnerMove c (profileLoadComplete m k s) (profileLoadComplete m k s).su (profileLoadComplete m k s).hu
      (profileLoadComplete m k s).lu := by
  obtain ⟨-, e⟩ | ⟨-, -, e⟩ | ⟨-, -, e⟩ := profileLoadComplete_cases m k s <;> rw [e]
  · simpa [failProfile_eq] using State.OwnerMove.inert (s := s) _ _
  · simpa using State.OwnerMove.profiled (s := s) _ _ _ fun h => (by rw [enterListening_own]; exact h)
  · simpa [failProfile_eq] using State.OwnerMove.inert (s := s) _ _

theorem frameReceived_ownerMove {c : Instr} (k : LockLevels) (s : State) :
    s.OwnerMove c (frameReceived k s) (frameReceived k s).su (frameReceived k s).hu (frameReceived k s).lu := by
  obtain ⟨li, e, -⟩ | ⟨-, e⟩ | ⟨f, n, x, -, -, -, e⟩ := frameReceived_cases k s <;> rw [e]
  · exact .kept
  · simpa [State.duplicateFound, State.frameTaken] using State.OwnerMove.inert (s := s) _ _
  · obtain ⟨hs, hh, hl, -⟩ | ⟨hc, hs, hh, hl, -⟩ := handOn_owners k n x (s.arrivalOf f) s.frameTaken
    · simp only [reportPeer_frame, hs, hh, hl]
      exact .kept
    · simp only [reportPeer_frame, hs, hh, hl]
      exact .cleared hc

/-- A command that steps none of the three units itself leaves them in one of the ways of `State.OwnerMove`. -/
theorem effectOf_ownerMove {c : Instr} {s : State} (hc : stepsOwner c = false) :
    s.OwnerMove c (effectOf c s) (effectOf c s).su (effectOf c s).hu (effectOf c s).lu := by
  cases c
  case restart k =>
    unfold effectOf restart; dsimp only; split
    · simpa using State.OwnerMove.kept (s := s)
    · exact .restarted _
  case supplySettled =>
    unfold effectOf
    obtain e | e := supplySettled_cases s <;> dsimp only <;> rw [e]
    · exact .kept
    · exact leavePowerup_ownerMove _ s
  case restartInputHigh =>
    unfold effectOf
    obtain e | ⟨-, e⟩ | ⟨-, e⟩ := restartInputHigh_cases s <;> dsimp only <;> rw [e]
    · exact .kept
    · exact leavePowerup_ownerMove _ s
    · simpa using State.OwnerMove.kept (s := s)
  case profileLoadComplete m k => exact profileLoadComplete_ownerMove m k s
  case frameReceived k => exact frameReceived_ownerMove k s
  case cabUpdate i => exact State.ownerMove_of_owners (cabUpdate_owners i s)
  case powerOn | supplyLoss => exact .unpowered _ rfl
  case wheelEdge | steeringUpdate | lockReleaseTimeEnd | centringSettleEnd | trackingTimeEnd | holdUpdate | confirmTimeEnd |
    applyFaultTimeEnd | releaseTimeEnd | levelUpdate | pulseLimitEnd | settleTimeEnd | skirtContact | closureComplete => cases hc
  all_goals simpa [effectOf] using State.OwnerMove.kept (s := s)

end Sys2Proof.Machine
end

section
/-! PROOF. The outputs follow the states of their units (R74, R122, R132, R150, R168): one lemma for each transition of a unit, and
what each command leaves of them. -/

namespace Sys2Proof.Machine

/-! ### Lists of doors -/

/-- A property of every door that a reset or a clear event gives holds of the doors that it leaves. -/
theorem forall_withLocks {P Q : Door → Prop} {f : Bool → Door → Door} {k : LockLevels} {l : List Door}
    (h : ∀ b d, P d → Q (f b d)) (hl : ∀ d ∈ l, P d) : ∀ d ∈ withLocks f k l, Q d := by
  intro x hx
  match l with
  | [] => cases hx
  | [d] =>
    obtain rfl : x = f k.first d := by simpa [withLocks] using hx
    exact h _ _ (hl d (by simp))
  | d :: e :: rest =>
    simp only [withLocks, List.mem_cons, List.mem_map] at hx
    obtain rfl | rfl | ⟨y, hy, rfl⟩ := hx
    · exact h _ _ (hl d (by simp))
    · exact h _ _ (hl e (by simp))
    · exact h _ _ (hl y (by simp [hy]))

/-- A property of every door that keeps it under the inputs holds of the doors after a periodic step. -/
theorem forall_withInputs {P : Door → Prop} {f : Door → DoorInputs → Door} {a b : DoorInputs} {l : List Door}
    (h : ∀ d i, P d → P (f d i)) (hl : ∀ d ∈ l, P d) : ∀ d ∈ withInputs f a b l, P d := by
  intro x hx
  match l with
  | [] => cases hx
  | [d] =>
    obtain rfl : x = f d a := by simpa [withInputs] using hx
    exact h _ _ (hl d (by simp))
  | d :: e :: rest =>
    simp only [withInputs, List.mem_cons] at hx
    obtain rfl | rfl | hy := hx
    · exact h _ _ (hl d (by simp))
    · exact h _ _ (hl e (by simp))
    · exact hl x (by simp [hy])

/-! ### Doors that have been reset (R182) -/

section
variable {P : Door → Prop} (h : ∀ b d, P (resetDoor b d)) {s : State}
include h

theorem forall_doorTable (p : Profile) (n : Fin 8) (k : LockLevels) : ∀ d ∈ doorTable p n k, P d :=
  forall_withLocks (P := fun _ => True) (fun b d _ => h b d) fun _ _ => trivial

theorem forall_doors_enterInert (k : LockLevels) : ∀ d ∈ (enterInert k s).du.doors, P d := by
  simp only [enterInert_units]
  exact forall_withLocks (P := fun _ => True) (fun b d _ => h b d) fun _ _ => trivial

theorem forall_doors_profileLoadComplete {m : List Byte} {k : LockLevels} :
    ∀ d ∈ (profileLoadComplete m k s).du.doors, P d := by
  obtain ⟨-, e⟩ | ⟨-, -, e⟩ | ⟨-, -, e⟩ := profileLoadComplete_cases m k s <;> rw [e]
  · exact forall_doors_enterInert h k
  · simp only [enterListening_frame, useImage_units]
    exact forall_doorTable h _ _ _
  · exact forall_doors_enterInert h k

end

/-! ### What a command can do to a door -/

/-- The doors after the event steps: each has taken every entry of the queue in turn (R170). -/
theorem doorEventSteps_doors (s : State) :
    (doorEventSteps s).du = { s.du with
      doors := s.du.doors.map fun d => s.du.queue.foldl (fun d e => d.take s.now e) d, queue := [] } := by
  have h (q : List DoorEvent) : ∀ t : State,
      (q.foldl takeDoorEvent t).du =
        { t.du with doors := t.du.doors.map fun d => q.foldl (fun d e => d.take t.now e) d } := by
    induction q with
    | nil => intro t; simp
    | cons e q ih => intro t; simp [ih, takeDoorEvent, Function.comp_def]
  rw [doorEventSteps, h]
  rfl

/-- The steps of one door that commands make of it (R168 to R182): a property which they all keep is one of every door. -/
structure Door.Kept (P : Door → Prop) : Prop where
  reset : ∀ b d, P (resetDoor b d)
  clear : ∀ now b d, P d → P (clearDoor now b d)
  event : ∀ now e d, P d → P (d.eventStep now e)
  periodic : ∀ v i d, P d → P (d.periodic v i)
  listening : ∀ i d, P d → P (d.listening i)
  driven : ∀ now d, P d → d.stopOver now = true → P d.driveOpen

section
variable {P : Door → Prop} (h : Door.Kept P) {s : State}
include h

/-- An update's event steps and periodic steps keep it. -/
theorem forall_doors_doorUpdate {a b : DoorInputs} (hs : ∀ d ∈ s.du.doors, P d) :
    ∀ d ∈ (doorUpdate a b s).du.doors, P d := by
  have taken (d : Door) (e : DoorEvent) (hd : P d) : P (d.take s.now e) := by
    unfold Door.take; split
    · exact h.event _ _ _ hd
    · exact hd
  have fold (q : List DoorEvent) : ∀ d, P d → P (q.foldl (fun d e => d.take s.now e) d) := by
    induction q with
    | nil => exact fun d hd => hd
    | cons e q ih => exact fun d hd => ih _ (taken d e hd)
  simp only [doorUpdate, State.pruneFrozen_frame]
  split
  · simp only [doorPeriodic, State.raiseIf_frame, doorEventSteps_doors]
    refine forall_withInputs (fun d i hd => h.periodic _ i d hd) fun d hd => ?_
    obtain ⟨e, he, rfl⟩ := List.mem_map.mp hd
    exact fold _ _ (hs e he)
  · exact forall_withInputs (fun d i hd => h.listening i d hd) hs

theorem forall_doors_driveStopEnd {n : Nat} (hs : ∀ d ∈ s.du.doors, P d) :
    ∀ d ∈ (driveStopEnd n s).du.doors, P d := by
  intro x hx
  obtain ⟨d, hd, rfl⟩ := List.mem_map.mp hx
  split
  next c => exact h.driven _ _ (hs d hd) c.2
  · exact hs d hd

theorem forall_doors_restart {k : LockLevels} (hs : ∀ d ∈ s.du.doors, P d) : ∀ d ∈ (restart k s).du.doors, P d := by
  unfold restart
  split
  · simpa using hs
  · exact forall_withLocks (P := fun _ => True) (fun b d _ => h.reset b d) fun _ _ => trivial

theorem forall_doors_of_owners {k : LockLevels} {t : State} (hs : ∀ d ∈ s.du.doors, P d)
    (ht : s.OwnersKept t ∨ s.OwnersCleared k t) : ∀ d ∈ t.du.doors, P d := by
  obtain ⟨-, -, -, e⟩ | ⟨-, -, -, -, e⟩ := ht <;> rw [e]
  · exact hs
  · exact forall_withLocks (fun b d hd => h.clear _ b d hd) hs

theorem forall_doors_frameReceived {k : LockLevels} (hs : ∀ d ∈ s.du.doors, P d) :
    ∀ d ∈ (frameReceived k s).du.doors, P d := by
  obtain ⟨li, e, -⟩ | ⟨-, e⟩ | ⟨f, n, x, -, -, -, e⟩ := frameReceived_cases k s <;> rw [e]
  · exact hs
  · exact forall_doors_enterInert h.reset k
  · simp only [reportPeer_frame]
    exact forall_doors_of_owners h (s := s.frameTaken) hs (handOn_owners k n x _ s.frameTaken)

/-- A property of doors that a reset gives and every step of a door keeps is kept by every command. -/
theorem forall_doors_effectOf {c : Instr} (hs : ∀ d ∈ s.du.doors, P d) : ∀ d ∈ (effectOf c s).du.doors, P d := by
  cases c
  case restart => exact forall_doors_restart h hs
  case profileLoadComplete => exact forall_doors_profileLoadComplete h.reset
  case frameReceived => exact forall_doors_frameReceived h hs
  case cabUpdate i => exact forall_doors_of_owners h hs (cabUpdate_owners i s)
  case doorUpdate | dwellTimeEnd | doorDeadlinePassed => exact forall_doors_doorUpdate h hs
  case driveStopEnd => exact forall_doors_driveStopEnd h hs
  case doorEvent => unfold effectOf doorEvent; dsimp only; split <;> simpa using hs
  case powerOn | supplyLoss => exact fun d hd => by cases hd
  all_goals simpa [effectOf] using hs

end

end Sys2Proof.Machine
end

section
/-! PROOF. The invariants of the outputs and of the kneel: what the transitions of each unit keep, and every command with them
(R74, R111, R122, R132, R150, R162, R168, R191). -/

namespace Sys2Proof.Machine

/-! ### The doors (R168) -/

/-- Every step of a door keeps its outputs following its state. -/
theorem Door.outputsFollow_kept : Door.Kept Door.OutputsFollow where
  reset b d := by simp [Door.OutputsFollow, resetDoor]
  clear now b d hd := by
    unfold clearDoor
    cases hl : d.latch <;> cases hs : d.state <;> simp_all [Door.OutputsFollow, DoorState.drawn] <;> split <;> simp
  event now e d hd := by
    unfold Door.eventStep
    split
    · exact hd
    · exact hd
    · simp [Door.OutputsFollow, Door.toReversing, DoorState.drawn]
    · exact hd
  periodic v i d hd := by
    have fault : (d.orFault v i).OutputsFollow := by
      unfold Door.orFault; split
      · simp [Door.OutputsFollow, Door.toFault]
      · exact hd
    unfold Door.periodic
    cases hs : d.state <;> dsimp only
    case locked =>
      unfold Door.lockedStep; (repeat' split)
      · simp [Door.OutputsFollow, Door.toFault]
      · simp [Door.OutputsFollow, Door.toUnlocking, DoorState.drawn]
      · exact hd
    case unlocking =>
      unfold Door.unlockingStep; (repeat' split)
      · simp [Door.OutputsFollow, Door.toReleased, DoorState.drawn]
      · simp [Door.OutputsFollow, Door.toLocking]
      · exact fault
    case released =>
      unfold Door.releasedStep; (repeat' split)
      · simp [Door.OutputsFollow, Door.toLocking]
      · exact hd
      · simp [Door.OutputsFollow, Door.toOpening, DoorState.drawn]
      · exact hd
    case opening =>
      unfold Door.openingStep; split
      · simp [Door.OutputsFollow, Door.toOpened, DoorState.drawn]
      · exact fault
    case opened =>
      have read : (d.beamRead v i).OutputsFollow := by unfold Door.beamRead; split <;> exact hd
      unfold Door.openedStep; split
      · simp [Door.OutputsFollow, Door.toClosing, DoorState.drawn]
      · exact read
    case closing =>
      unfold Door.closingStep; (repeat' split)
      · simp [Door.OutputsFollow, Door.toReversing, DoorState.drawn]
      · simp [Door.OutputsFollow, Door.toLocking]
      · exact fault
    case reversing =>
      unfold Door.reversingStep; split
      · simp [Door.OutputsFollow, Door.toOpened, DoorState.drawn]
      · exact fault
    case locking =>
      unfold Door.lockingStep; split
      · simp [Door.OutputsFollow, Door.toLocked]
      · exact fault
    case fault => unfold Door.report; split <;> exact hd
  listening i d _ := by simp [Door.OutputsFollow, Door.listening]
  driven now d hd ho := by
    simp only [Door.stopOver, Bool.and_eq_true, decide_eq_true_eq] at ho
    simpa [Door.OutputsFollow, Door.driveOpen, ho.1] using hd.1

/-! ### The corners (R150 to R156) -/

/-- A corner with both valves closed. -/
theorem Corner.valvesFollow_of_closed {c : Corner} (hf : c.fillValve = false) (he : c.exhaustValve = false) :
    c.ValvesFollow := by simp [Corner.ValvesFollow, hf, he]

/-- A corner in neither FILLING nor EXHAUSTING has both valves closed. -/
theorem Corner.ValvesFollow.closed {c : Corner} (h : c.ValvesFollow) (hf : c.phase ≠ .filling) (he : c.phase ≠ .exhausting) :
    c.fillValve = false ∧ c.exhaustValve = false :=
  ⟨by simpa using mt h.1 hf, by simpa using mt h.2 he⟩

theorem Corner.toFault_valvesFollow (c : Corner) (cause : FaultCause) : (c.toFault cause).ValvesFollow :=
  valvesFollow_of_closed rfl rfl

theorem Corner.close_valvesFollow (c : Corner) (now : Time) : (c.close now).ValvesFollow :=
  valvesFollow_of_closed rfl rfl

theorem Corner.sample_valvesFollow {c : Corner} (v : Option Int) (still : Bool) (h : c.ValvesFollow) :
    (c.sample v still).ValvesFollow := by
  cases v <;> exact h

theorem Corner.clearBar_valvesFollow {c : Corner} (v : CornerView) (h : c.ValvesFollow) :
    (c.clearBar v).ValvesFollow := by
  unfold Corner.clearBar; split <;> exact h

/-- A step of a corner's phase keeps the valves following it: an opened valve is that of the phase entered. -/
theorem Corner.phaseStep_valvesFollow {c : Corner} (v : CornerView) (h : c.ValvesFollow) :
    (c.phaseStep v).ValvesFollow := by
  unfold Corner.phaseStep
  cases hp : c.phase <;> dsimp only
  case steady =>
    obtain ⟨hf, he⟩ := h.closed (by simp [hp]) (by simp [hp])
    split
    · unfold Corner.steadyStep; (repeat' split)
      · simp [Corner.ValvesFollow, Corner.openFill, he]
      · exact h
      · simp [Corner.ValvesFollow, Corner.openExhaust, hf]
      · exact h
    · exact c.toFault_valvesFollow _
  case filling =>
    unfold Corner.fillingStep; (repeat' split)
    · exact c.close_valvesFollow _
    · exact h
    · exact c.toFault_valvesFollow _
  case exhausting =>
    unfold Corner.exhaustingStep; (repeat' split)
    · exact c.close_valvesFollow _
    · exact h
    · exact c.toFault_valvesFollow _
  case closing =>
    split
    · exact h
    · exact c.toFault_valvesFollow _
  case settling =>
    obtain ⟨hf, he⟩ := h.closed (by simp [hp]) (by simp [hp])
    unfold Corner.settlingStep; (repeat' split)
    · exact valvesFollow_of_closed rfl rfl
    · exact valvesFollow_of_closed hf he
    · exact h
    · exact c.toFault_valvesFollow _
  case fault =>
    obtain ⟨hf, he⟩ := h.closed (by simp [hp]) (by simp [hp])
    unfold Corner.faultStep; split
    · exact valvesFollow_of_closed hf he
    · exact h

theorem Corner.step_valvesFollow {c : Corner} (v : CornerView) (restart : Bool) (h : c.ValvesFollow) :
    (c.step v restart).ValvesFollow := by
  unfold Corner.step; split
  · exact (c.clearBar v).toFault_valvesFollow _
  · exact Corner.phaseStep_valvesFollow v (Corner.clearBar_valvesFollow v h)

/-- Both corners of the level unit. -/
def LevelUnit.ValvesFollow (l : LevelUnit) : Prop := l.left.ValvesFollow ∧ l.right.ValvesFollow

theorem LevelUnit.reset_valvesFollow (h : Nat) (a b : Bool) : (LevelUnit.reset h a b).ValvesFollow :=
  ⟨Corner.valvesFollow_of_closed rfl rfl, Corner.valvesFollow_of_closed rfl rfl⟩

/-- Resolving an abort moves targets alone. -/
theorem LevelUnit.settleAbort_valvesFollow {l : LevelUnit} (r : Nat) (h : l.ValvesFollow) :
    (l.settleAbort r).ValvesFollow := by
  unfold LevelUnit.settleAbort; split <;> exact h

theorem Corner.stopExhaust_valvesFollow {c : Corner} (now : Time) (h : c.ValvesFollow) :
    (c.stopExhaust now).ValvesFollow := by
  unfold Corner.stopExhaust; split
  · exact c.close_valvesFollow _
  · exact h

/-- The skirt contact closes the exhausts that it finds open (R162). -/
theorem State.contactLevel_valvesFollow {s : State} (h : s.lu.ValvesFollow) : s.contactLevel.ValvesFollow :=
  LevelUnit.settleAbort_valvesFollow _ ⟨Corner.stopExhaust_valvesFollow _ h.1, Corner.stopExhaust_valvesFollow _ h.2⟩

theorem State.levelAfter_valvesFollow {s : State} (skirt acted : Bool) (h : s.lu.ValvesFollow) :
    (s.levelAfter skirt acted).ValvesFollow :=
  ⟨Corner.step_valvesFollow _ _ (Corner.sample_valvesFollow _ _ h.1),
    Corner.step_valvesFollow _ _ (Corner.sample_valvesFollow _ _ h.2)⟩

@[simp] theorem skirtContact_lu (s : State) : (skirtContact s).lu = s.contactLevel := by simp [skirtContact]

@[simp] theorem levelStep_lu (skirt acted : Bool) (s : State) : (levelStep skirt acted s).lu = s.levelAfter skirt acted := by
  simp [levelStep]

theorem levelUpdate_valvesFollow {s : State} (skirt : Bool) (h : s.lu.ValvesFollow) :
    (levelUpdate skirt s).lu.ValvesFollow := by
  unfold levelUpdate; split <;> rw [levelStep_lu]
  · exact State.levelAfter_valvesFollow _ _ (by simpa using State.contactLevel_valvesFollow h)
  · exact State.levelAfter_valvesFollow _ _ h

theorem closureComplete_valvesFollow {s : State} (side : Side) (h : s.lu.ValvesFollow) :
    (closureComplete side s).lu.ValvesFollow := by
  have closed {c : Corner} (hc : c.ValvesFollow) : c.closed.ValvesFollow := by
    unfold Corner.closed; split
    next hp =>
      obtain ⟨hf, he⟩ := hc.closed (by simp [hp]) (by simp [hp])
      exact Corner.valvesFollow_of_closed hf he
    · exact hc
  refine LevelUnit.settleAbort_valvesFollow _ ?_
  cases side
  · exact ⟨closed h.1, h.2⟩
  · exact ⟨h.1, closed h.2⟩

theorem effectOf_valvesFollow {c : Instr} {s : State} (h : s.lu.ValvesFollow) : (effectOf c s).lu.ValvesFollow := by
  cases hc : stepsOwner c with
  | false =>
    have m := effectOf_ownerMove (s := s) hc
    generalize (effectOf c s).su = su, (effectOf c s).hu = hu, (effectOf c s).lu = lu at m ⊢
    cases m
    case kept | cleared | listening | profiled => exact h
    case inert | unpowered => exact LevelUnit.reset_valvesFollow ..
    case restarted => exact LevelUnit.reset_valvesFollow _ false false
  | true =>
    cases c
    case levelUpdate | pulseLimitEnd | settleTimeEnd => exact levelUpdate_valvesFollow _ h
    case skirtContact => simpa [effectOf] using State.contactLevel_valvesFollow h
    case closureComplete => exact closureComplete_valvesFollow _ h
    case wheelEdge | steeringUpdate | lockReleaseTimeEnd | centringSettleEnd | trackingTimeEnd | holdUpdate | confirmTimeEnd |
      applyFaultTimeEnd | releaseTimeEnd => simpa [effectOf] using h
    all_goals cases hc

/-! ### The hold valve (R132) -/

/-- The hold valve is energised exactly in OFF and RELEASING. -/
def HoldUnit.ValveFollows (h : HoldUnit) : Prop := h.valve = !h.state.applied

theorem HoldUnit.clear_valveFollows {h : HoldUnit} (now : Time) (hf : h.ValveFollows) : (h.clear now).ValveFollows := by
  unfold HoldUnit.clear; split <;> exact hf

theorem HoldUnit.enterInert_valveFollows (axle : Bool) (h : HoldUnit) : (h.enterInert axle).ValveFollows := by
  cases axle <;> rfl

/-- Each transition of a hold update sets the valve with the state. -/
theorem State.holdAfter_valveFollows {s : State} (h : s.hu.ValveFollows) : s.holdAfter.ValveFollows := by
  have valve : s.hu.valve = !s.hu.state.applied := h
  have measured : s.holdMeasured.ValveFollows := h
  have held (hs : s.hu.state.applied = true) : s.holdMeasured.toHeld.ValveFollows := by
    show s.hu.valve = false
    rw [valve, hs]; rfl
  unfold State.holdAfter; split
  · unfold State.holdTransition
    cases hst : s.hu.state <;> dsimp only <;> (repeat' split)
    case applying.isTrue | releasePending.isFalse.isTrue => rfl
    case off.isTrue | releasing.isTrue => rfl
    case applying.isFalse.isTrue | releasePending.isTrue => exact held (by rw [hst]; rfl)
    case held.isTrue =>
      show s.hu.valve = false
      rw [valve, hst]; rfl
    case releasing.isFalse.isTrue =>
      show s.hu.valve = true
      rw [valve, hst]; rfl
    all_goals exact measured
  · unfold State.holdListening; split
    next hc =>
      simp only [State.holdConfirmed, Bool.and_eq_true, decide_eq_true_eq] at hc
      obtain ⟨⟨hst, -⟩, -⟩ := hc
      exact held (by rw [hst]; rfl)
    · exact measured

theorem effectOf_valveFollows {c : Instr} {s : State} (h : s.hu.ValveFollows) : (effectOf c s).hu.ValveFollows := by
  cases hc : stepsOwner c with
  | false =>
    have m := effectOf_ownerMove (s := s) hc
    generalize (effectOf c s).su = su, (effectOf c s).hu = hu, (effectOf c s).lu = lu at m ⊢
    cases m
    case kept | listening | profiled => exact h
    case cleared => exact HoldUnit.clear_valveFollows _ h
    case inert => exact HoldUnit.enterInert_valveFollows ..
    case restarted | unpowered => rfl
  | true =>
    cases c
    case holdUpdate | confirmTimeEnd | applyFaultTimeEnd | releaseTimeEnd =>
      simpa [effectOf] using State.holdAfter_valveFollows h
    case wheelEdge | steeringUpdate | lockReleaseTimeEnd | centringSettleEnd | trackingTimeEnd | levelUpdate | pulseLimitEnd |
      settleTimeEnd | skirtContact | closureComplete => simpa [effectOf] using h
    all_goals cases hc

/-! ### The centre lock (R74, R93) -/

/-- In LOCKED the centre lock is engaged and the set-point is 0. -/
def SteeringUnit.LockFollows (u : SteeringUnit) : Prop := u.state = .locked → u.lockValve = false ∧ u.setPoint = 0

/-- A point laid moves the STATUS steer command alone (R57). -/
theorem wheelEdge_su (w : Side) (d : Direction) (s : State) :
    (wheelEdge w d s).su = s.su ∨
      ∃ d1, (wheelEdge w d s).su = { s.su with command := clampInt (-2500) 2500 d1 } := by
  have changed (t : State) : (pathOdometerChanged t).su = t.su ∨
      ∃ d1, (pathOdometerChanged t).su = { t.su with command := clampInt (-2500) 2500 d1 } := by
    unfold pathOdometerChanged
    split
    · dsimp only; split
      next d1 _ => exact .inr ⟨d1, rfl⟩
      · exact .inl rfl
    · exact .inl rfl
  unfold wheelEdge leadingEdge
  dsimp only
  split
  · split
    · split
      · simpa using changed (pathRestart _)
      · simpa using changed { recordEdge w _ s with pc := _ }
    · exact .inl (by simp)
  · exact .inl (by simp)

/-- The one transition of a steering update, whatever the conditions and the lookup (R74 to R81). -/
inductive State.SteerMove (s : State) (r : AxleRec) (conditions : Bool) (found : Lookup) : SteeringUnit → Prop
  | stays (h : s.su.state = .leading ∨ s.su.state = .lockRelease) : s.SteerMove r conditions found s.su
  | unlocks (h : s.su.state = .locked) (hc : conditions = true) (t : Bau) (hf : found = .value t) :
      s.SteerMove r conditions found { s.su with state := .lockRelease, command := 0, releaseStart := some s.now }
  | staysLocked (h : s.su.state = .locked) : s.SteerMove r conditions found { s.su with command := 0 }
  | follows (h : s.su.state ≠ .locked) (t : Bau) : s.SteerMove r conditions found (s.toFollowing r t)
  | holds (h : s.su.state ≠ .locked) : s.SteerMove r conditions found s.toHolding
  | centres (h : s.su.state ≠ .locked) : s.SteerMove r conditions found s.toCentring
  | locks (h : s.su.state = .centring) : s.SteerMove r conditions found s.toLocked

theorem State.steerTransition_move (s : State) (r : AxleRec) (b : Bool) (f : Lookup) :
    s.SteerMove r b f (s.steerTransition r b f) := by
  have ne {x : SteerState} (h : s.su.state = x) (hx : x ≠ .locked) : s.su.state ≠ .locked := h ▸ hx
  unfold State.steerTransition
  cases hst : s.su.state <;> dsimp only
  case leading => exact .stays (.inl hst)
  case locked =>
    match b, f with
    | true, .value t => exact .unlocks hst rfl t rfl
    | true, .brk | true, .noPath | false, _ => exact .staysLocked hst
  case lockRelease =>
    have h := ne hst (by decide)
    by_cases hr : lasted s.su.releaseStart Config.lockReleaseTime s.now = true
    · rw [if_pos hr]
      match b, f with
      | true, .value t => exact .follows h t
      | true, .brk => exact .holds h
      | true, .noPath | false, _ => exact .centres h
    · rw [if_neg hr]
      exact .stays (.inr hst)
  case following | holding =>
    have h := ne hst (by decide)
    match b, f with
    | true, .value t => exact .follows h t
    | true, .brk => exact .holds h
    | true, .noPath | false, _ => exact .centres h
  case centring =>
    have h := ne hst (by decide)
    match b, f with
    | true, .value t => exact .follows h t
    | true, .brk | true, .noPath | false, _ =>
      by_cases hl : s.su.command = 0 ∧ s.lockMayEngage = true
      · exact (if_pos hl).symm ▸ .locks hst
      · exact (if_neg hl).symm ▸ .centres h

/-- A transition that gives LOCKED gives the command 0 with it (R74, R79, R80). -/
theorem State.steerTransition_locked {s : State} {r : AxleRec} {b : Bool} {f : Lookup}
    (h : (s.steerTransition r b f).state = .locked) : (s.steerTransition r b f).command = 0 := by
  have m := s.steerTransition_move r b f
  generalize s.steerTransition r b f = u at m h ⊢
  cases m
  case stays hs => exact absurd h (by obtain hs | hs := hs <;> simp [hs])
  case unlocks | staysLocked | locks => rfl
  case follows | holds | centres => cases h

@[simp] theorem trackingCheck_su (s : State) :
    (trackingCheck s).su.state = s.su.state ∧ (trackingCheck s).su.command = s.su.command ∧
    (trackingCheck s).su.setPoint = s.su.setPoint ∧ (trackingCheck s).su.lockValve = s.su.lockValve ∧
    (trackingCheck s).su.releaseStart = s.su.releaseStart ∧ (trackingCheck s).su.zeroStart = s.su.zeroStart := by
  unfold trackingCheck; (repeat' split) <;> simp

/-- A steering update of an axle leaves the unit of its one transition, its outputs driven from it (R71, R95). -/
theorem steeringUpdate_su {s : State} {r : AxleRec} (h : s.own.axle? = some r) :
    (steeringUpdate s).su = ((trackingCheck s).steerTransition r ((trackingCheck s).followConditions r)
      (lookupAt ((trackingCheck s).axlePosition r) (trackingCheck s).pu.queue)).drive := by
  simp [steeringUpdate, h, steerStep]

theorem steeringUpdate_lockFollows {s : State} (h : s.su.LockFollows) : (steeringUpdate s).su.LockFollows := by
  cases ho : s.own.axle? with
  | none => simpa [steeringUpdate, ho] using h
  | some r =>
    rw [steeringUpdate_su ho]
    intro hl
    exact ⟨by simpa [SteeringUnit.drive] using hl, State.steerTransition_locked hl⟩

theorem effectOf_lockFollows {c : Instr} {s : State} (h : s.su.LockFollows) : (effectOf c s).su.LockFollows := by
  cases hc : stepsOwner c with
  | false =>
    have m := effectOf_ownerMove (s := s) hc
    generalize (effectOf c s).su = su, (effectOf c s).hu = hu, (effectOf c s).lu = lu at m ⊢
    cases m
    case kept | cleared => exact h
    case listening leads _ _ | profiled leads _ _ _ =>
      cases leads
      · exact h
      · exact fun e => by cases e
    case inert | restarted | unpowered => exact fun _ => ⟨rfl, rfl⟩
  | true =>
    cases c
    case steeringUpdate | lockReleaseTimeEnd | centringSettleEnd | trackingTimeEnd => exact steeringUpdate_lockFollows h
    case wheelEdge w d =>
      obtain e | ⟨d1, e⟩ := wheelEdge_su w d s
      · exact e ▸ h
      · unfold effectOf; dsimp only; rw [e]; exact h
    case holdUpdate | confirmTimeEnd | applyFaultTimeEnd | releaseTimeEnd | levelUpdate | pulseLimitEnd | settleTimeEnd |
      skirtContact | closureComplete => simpa [effectOf] using h
    all_goals cases hc

/-! ### The brake set-points (R122) -/

/-- Both set-points are the pressure targets. -/
def BrakeUnit.SetPointsFollow (b : BrakeUnit) : Prop :=
  b.left.setPoint = b.left.target ∧ b.right.setPoint = b.right.target

/-- The brake unit after a brake update: its load formed, and both wheels stepped in ACTIVE and ISOLATED (R109). -/
theorem brakeUpdate_bu {s : State} {r : AxleRec} (h : s.own.axle? = some r) :
    (brakeUpdate s).bu = if s.drives then (brakeStep r (s.withLoad r)).bu else (s.withLoad r).bu := by
  simp only [brakeUpdate, h]
  split <;> rfl

/-- The brake unit after steps 3 to 6 of a brake update (R112 to R122). -/
theorem brakeStep_bu (r : AxleRec) (s : State) : (brakeStep r s).bu =
    { s.bu with
      reverseStop := s.reverseStopAfter
      demand := s.axleDemand r s.loadInUse (s.deceleration s.reverseStopAfter)
      left := s.bu.left.update (s.axleDemand r s.loadInUse (s.deceleration s.reverseStopAfter))
        (s.wheelSlip (s.deceleration s.reverseStopAfter) .left)
      right := s.bu.right.update (s.axleDemand r s.loadInUse (s.deceleration s.reverseStopAfter))
        (s.wheelSlip (s.deceleration s.reverseStopAfter) .right) } := by
  simp [brakeStep]

theorem brakeUpdate_setPointsFollow {s : State} (h : s.bu.SetPointsFollow) : (brakeUpdate s).bu.SetPointsFollow := by
  cases ho : s.own.axle? with
  | none => simpa [brakeUpdate, ho] using h
  | some r =>
    rw [brakeUpdate_bu ho]; split
    · rw [brakeStep_bu]; exact ⟨rfl, rfl⟩
    · exact h

/-- The level unit freezes the load and lets it go, and touches nothing else of the brake unit (R111). -/
theorem State.setLevel_bu (l : LevelUnit) (s : State) :
    (s.setLevel l).bu = { s.bu with frozen := (s.setLevel l).bu.frozen } := by
  unfold State.setLevel; dsimp only; (repeat' split) <;> rfl

@[simp] theorem skirtContact_bu (s : State) : (skirtContact s).bu = (s.setLevel s.contactLevel).bu := by
  simp [skirtContact]

@[simp] theorem levelStep_bu (skirt acted : Bool) (s : State) :
    (levelStep skirt acted s).bu = (s.setLevel (s.levelAfter skirt acted)).bu := by
  simp [levelStep]

theorem levelUpdate_bu (skirt : Bool) (s : State) :
    (levelUpdate skirt s).bu = { s.bu with frozen := (levelUpdate skirt s).bu.frozen } := by
  unfold levelUpdate
  split
  · rw [levelStep_bu, State.setLevel_bu, skirtContact_bu, State.setLevel_bu]
  · rw [levelStep_bu, State.setLevel_bu]

/-- Outside the brake and level units the brake unit is kept or reset (R125). -/
theorem effectOf_bu (c : Instr) (s : State) :
    (effectOf c s).bu = s.bu ∨ (effectOf c s).bu = BrakeUnit.reset ∨ effectOf c s = brakeUpdate s ∨
      (effectOf c s).bu = { s.bu with frozen := (effectOf c s).bu.frozen } := by
  cases c
  case restart k =>
    unfold effectOf restart; dsimp only; split
    · exact .inl (by simp)
    · exact .inr (.inl rfl)
  case profileLoadComplete m k =>
    unfold effectOf
    obtain ⟨-, e⟩ | ⟨-, -, e⟩ | ⟨-, -, e⟩ := profileLoadComplete_cases m k s <;> dsimp only <;> rw [e]
    · exact .inr (.inl (by simp [failProfile_eq]))
    · exact .inl (by simp)
    · exact .inr (.inl (by simp [failProfile_eq]))
  case frameReceived k =>
    unfold effectOf
    obtain ⟨li, e, -⟩ | ⟨-, e⟩ | ⟨f, n, x, -, -, -, e⟩ := frameReceived_cases k s <;> dsimp only <;> rw [e]
    · exact .inl rfl
    · exact .inr (.inl (by simp))
    · exact .inl (by simp [State.frameTaken])
  case powerOn | supplyLoss => exact .inr (.inl rfl)
  case brakeUpdate => exact .inr (.inr (.inl rfl))
  case levelUpdate | pulseLimitEnd | settleTimeEnd => exact .inr (.inr (.inr (levelUpdate_bu _ s)))
  case skirtContact =>
    refine .inr (.inr (.inr ?_))
    simpa [effectOf] using State.setLevel_bu s.contactLevel s
  case closureComplete => exact .inr (.inr (.inr (State.setLevel_bu _ s)))
  all_goals exact .inl (by simp [effectOf])

theorem effectOf_setPointsFollow {c : Instr} {s : State} (h : s.bu.SetPointsFollow) :
    (effectOf c s).bu.SetPointsFollow := by
  obtain e | e | e | e := effectOf_bu c s <;> rw [e]
  · exact h
  · exact ⟨rfl, rfl⟩
  · exact brakeUpdate_setPointsFollow h
  · exact h

/-! ### Every output -/

/-- Settles O57: each unit's transitions keep its outputs following its state. -/
theorem outputsFollowKept : Obligations.OutputsFollowKept := by
  intro s t hs
  refine step_keeps (P := State.OutputsFollow) ?pending ?powerOn ?elapse ?effect hs
  case pending => exact fun s l h => ⟨h.hold, h.lock, h.leftCorner, h.rightCorner, h.doors, h.leftWheel, h.rightWheel⟩
  case powerOn =>
    exact fun n b l s => ⟨rfl, fun _ => ⟨rfl, rfl⟩, Corner.valvesFollow_of_closed rfl rfl,
      Corner.valvesFollow_of_closed rfl rfl, fun d hd => (by cases hd), rfl, rfl⟩
  case elapse =>
    intro dt s h
    constructor <;> simp only [State.elapse_frame]
    exacts [h.hold, h.lock, h.leftCorner, h.rightCorner, h.doors, h.leftWheel, h.rightWheel]
  case effect =>
    intro c s h _
    obtain ⟨hleft, hright⟩ := effectOf_valvesFollow (c := c) ⟨h.leftCorner, h.rightCorner⟩
    obtain ⟨hl, hr⟩ := effectOf_setPointsFollow (c := c) ⟨h.leftWheel, h.rightWheel⟩
    exact ⟨effectOf_valveFollows h.hold, effectOf_lockFollows h.lock, hleft, hright,
      forall_doors_effectOf Door.outputsFollow_kept h.doors, hl, hr⟩

end Sys2Proof.Machine
end

section
/-! PROOF. The kneel and the outputs at rest: the load is frozen with the kneel phase, an abort pends in a kneel alone, and nothing is
driven while no unit runs (R111, R162, R191). -/

namespace Sys2Proof.Machine

/-! ### The frozen load and the abort (R111, R162) -/

/-- An abort pends only in KNEELING or KNELT. -/
def LevelUnit.AbortHolds (l : LevelUnit) : Prop := l.abort = true → l.kneel.lowered = true

/-- Setting the level unit keeps the load frozen exactly while the kneel phase freezes it (R111). -/
theorem State.setLevel_frozen {s : State} (l : LevelUnit) (h : s.bu.frozen.isSome = s.lu.kneel.freezes) :
    (s.setLevel l).bu.frozen.isSome = l.kneel.freezes := by
  unfold State.setLevel
  cases hb : s.lu.kneel.freezes <;> cases ha : l.kneel.freezes <;> simp [h, hb]

theorem State.setLevel_kneelHolds {s : State} {l : LevelUnit} (h : s.KneelHolds) (hl : l.AbortHolds) :
    (s.setLevel l).KneelHolds :=
  ⟨State.setLevel_frozen l h.frozen, hl⟩

/-- What leaves the frozen load, the kneel phase and the abort keeps the invariant. -/
theorem State.KneelHolds.of_eq {s t : State} (h : s.KneelHolds) (hf : t.bu.frozen = s.bu.frozen)
    (hk : t.lu.kneel = s.lu.kneel) (ha : t.lu.abort = s.lu.abort) : t.KneelHolds :=
  ⟨by rw [hf, hk]; exact h.frozen, by rw [ha, hk]; exact h.abort⟩

theorem LevelUnit.settleAbort_abortHolds {l : LevelUnit} (r : Nat) (h : l.AbortHolds) : (l.settleAbort r).AbortHolds := by
  unfold LevelUnit.settleAbort; split
  · exact fun e => by cases e
  · exact h

/-- A contact that acts does so in KNEELING or KNELT (R162). -/
theorem State.contactLevel_abortHolds {s : State} (h : s.skirtListens = true) : s.contactLevel.AbortHolds := by
  simp only [State.skirtListens, Bool.and_eq_true] at h
  exact LevelUnit.settleAbort_abortHolds _ fun _ => h.1

/-- An update changes neither the abort nor, while it pends, the kneel phase (R161, R162). -/
@[simp] theorem State.levelAfter_abort (s : State) (skirt acted : Bool) :
    (s.levelAfter skirt acted).abort = s.lu.abort := rfl

theorem State.levelAfter_kneel_of_abort {s : State} (skirt acted : Bool) (h : s.lu.abort = true) :
    (s.levelAfter skirt acted).kneel = s.lu.kneel := by
  have hl : s.latchedLevel.abort = true := h
  simp [State.levelAfter, LevelUnit.finish, LevelUnit.stepCorners, State.targetedLevel, State.kneelStep, hl]
  simp [State.latchedLevel, State.sampledLevel]

theorem State.levelAfter_abortHolds {s : State} (skirt acted : Bool) (h : s.lu.AbortHolds) :
    (s.levelAfter skirt acted).AbortHolds := by
  intro ha
  rw [State.levelAfter_abort] at ha
  rw [State.levelAfter_kneel_of_abort _ _ ha]
  exact h ha

theorem skirtContact_kneelHolds {s : State} (h : s.KneelHolds) (hs : s.skirtListens = true) :
    (skirtContact s).KneelHolds :=
  (State.setLevel_kneelHolds h (State.contactLevel_abortHolds hs)).of_eq (by simp) (by simp) (by simp)

theorem levelStep_kneelHolds {s : State} (skirt acted : Bool) (h : s.KneelHolds) : (levelStep skirt acted s).KneelHolds :=
  (State.setLevel_kneelHolds h (State.levelAfter_abortHolds skirt acted h.abort)).of_eq (by simp) (by simp) (by simp)

theorem levelUpdate_kneelHolds {s : State} (skirt : Bool) (h : s.KneelHolds) : (levelUpdate skirt s).KneelHolds := by
  unfold levelUpdate; split
  next hc => exact levelStep_kneelHolds _ _ (skirtContact_kneelHolds h (Bool.and_eq_true_iff.mp hc).2)
  · exact levelStep_kneelHolds _ _ h

theorem closureComplete_kneelHolds {s : State} (side : Side) (h : s.KneelHolds) : (closureComplete side s).KneelHolds := by
  refine State.setLevel_kneelHolds h (LevelUnit.settleAbort_abortHolds _ ?_)
  cases side <;> exact h.abort

@[simp] theorem brakeUpdate_frozen (s : State) : (brakeUpdate s).bu.frozen = s.bu.frozen := by
  cases ho : s.own.axle? with
  | none => simp [brakeUpdate, ho]
  | some r => rw [brakeUpdate_bu ho, brakeStep_bu]; split <;> rfl

/-- A unit that has been reset holds no frozen load, and no kneel. -/
theorem State.kneelHolds_of_reset {s : State} (hf : s.bu.frozen = none) (hk : s.lu.kneel = .none)
    (ha : s.lu.abort = false) : s.KneelHolds :=
  ⟨by simp [hf, hk, KneelPhase.freezes], by simp [ha]⟩

theorem enterInert_kneelHolds (k : LockLevels) (s : State) : (enterInert k s).KneelHolds :=
  State.kneelHolds_of_reset (by simp [BrakeUnit.reset]) (by simp [LevelUnit.reset]) (by simp [LevelUnit.reset])

theorem State.kneelHolds_of_owners {k : LockLevels} {s t : State} (h : s.KneelHolds) (hb : t.bu = s.bu)
    (ht : s.OwnersKept t ∨ s.OwnersCleared k t) : t.KneelHolds := by
  obtain ⟨-, -, hl, -⟩ | ⟨-, -, -, hl, -⟩ := ht <;> exact h.of_eq (by rw [hb]) (by rw [hl]) (by rw [hl])

theorem effectOf_kneelHolds {c : Instr} {s : State} (h : s.KneelHolds) (hr : readyOf c s = true) :
    (effectOf c s).KneelHolds := by
  cases c
  case restart k =>
    unfold effectOf restart; dsimp only; split
    · exact h.of_eq (by simp) (by simp) (by simp)
    · exact State.kneelHolds_of_reset rfl rfl rfl
  case profileLoadComplete m k =>
    unfold effectOf
    obtain ⟨-, e⟩ | ⟨-, -, e⟩ | ⟨-, -, e⟩ := profileLoadComplete_cases m k s <;> dsimp only <;> rw [e]
    · exact enterInert_kneelHolds ..
    · exact h.of_eq (by simp) (by simp) (by simp)
    · exact enterInert_kneelHolds ..
  case frameReceived k =>
    unfold effectOf
    obtain ⟨li, e, -⟩ | ⟨-, e⟩ | ⟨f, n, x, -, -, -, e⟩ := frameReceived_cases k s <;> dsimp only <;> rw [e]
    · exact h.of_eq rfl rfl rfl
    · exact enterInert_kneelHolds ..
    · have taken : s.frameTaken.KneelHolds := h.of_eq rfl rfl rfl
      have handed := handOn_owners k n x (s.arrivalOf f) s.frameTaken
      exact (State.kneelHolds_of_owners taken (by simp) handed).of_eq
        (by simp) (by simp) (by simp)
  case cabUpdate i =>
    exact State.kneelHolds_of_owners h (by simp [effectOf]) (cabUpdate_owners i s)
  case levelUpdate | pulseLimitEnd | settleTimeEnd => exact levelUpdate_kneelHolds _ h
  case skirtContact =>
    have hl : s.skirtListens = true := (Bool.and_eq_true_iff.mp hr).2
    exact skirtContact_kneelHolds h hl
  case closureComplete => exact closureComplete_kneelHolds _ h
  case powerOn | supplyLoss => exact State.kneelHolds_of_reset rfl rfl rfl
  all_goals exact h.of_eq (by simp [effectOf]) (by simp [effectOf]) (by simp [effectOf])

/-- Settles O59: the level unit alone writes the kneel phase, and freezes the load with it. -/
theorem kneelInvariantKept : Obligations.KneelInvariantKept := by
  intro s t hs
  exact step_keeps (fun _ _ h => h.of_eq rfl rfl rfl) (fun _ _ _ _ => State.kneelHolds_of_reset rfl rfl rfl)
    (fun _ _ h => h.of_eq (by simp) (by simp) (by simp)) (fun _ _ h hr => effectOf_kneelHolds h hr) hs

/-! ### The outputs at rest (R191) -/

/-- A level unit with every valve closed. -/
def LevelUnit.Closed (l : LevelUnit) : Prop :=
  l.left.fillValve = false ∧ l.left.exhaustValve = false ∧ l.right.fillValve = false ∧ l.right.exhaustValve = false

/-- All six telltales are lit. -/
def Telltales.Lit (t : Telltales) : Prop :=
  t.steer.lit = true ∧ t.brake.lit = true ∧ t.joint.lit = true ∧ t.level.lit = true ∧ t.door.lit = true ∧ t.station.lit = true

theorem Telltales.allLit_lit (t : Telltales) : t.allLit.Lit := ⟨rfl, rfl, rfl, rfl, rfl, rfl⟩

theorem Telltales.note_lit {t : Telltales} (a : Time) (g : Group) (h : t.Lit) : (t.note a g).Lit := by
  cases g <;> exact h

/-- A reset door has both outputs at rest. -/
theorem forall_withLocks_reset_atRest (k : LockLevels) (l : List Door) : ∀ d ∈ withLocks resetDoor k l, d.AtRest :=
  forall_withLocks (P := fun _ => True) (fun _ _ _ => ⟨rfl, rfl⟩) fun _ _ => trivial

/-- Units at their reset values drive nothing. -/
theorem State.atRest_of_reset {s : State} (hh : s.hu.valve = false) {a : Bool} (hs : s.su = SteeringUnit.reset a)
    (hb : s.bu = BrakeUnit.reset) (hj : s.ju = JointUnit.reset) (hl : s.lu.Closed) (hd : ∀ d ∈ s.du.doors, d.AtRest)
    (hc : s.cu.telltales.Lit) : s.AtRest := by
  obtain ⟨l1, l2, l3, l4⟩ := hl
  obtain ⟨c1, c2, c3, c4, c5, c6⟩ := hc
  constructor <;> try assumption
  all_goals simp [hs, hb, hj, SteeringUnit.reset, BrakeUnit.reset, BrakeWheel.reset, JointUnit.reset]

/-- What leaves every unit with outputs, and the lit rows, leaves the outputs at rest. -/
theorem State.AtRest.of_eq {s t : State} (h : s.AtRest) (hh : t.hu.valve = s.hu.valve)
    (hs : t.su.lockValve = s.su.lockValve ∧ t.su.setPoint = s.su.setPoint) (hb : t.bu = s.bu) (hj : t.ju = s.ju)
    (hl : s.lu.Closed → t.lu.Closed) (hd : (∀ d ∈ s.du.doors, d.AtRest) → ∀ d ∈ t.du.doors, d.AtRest)
    (hc : s.cu.telltales.Lit → t.cu.telltales.Lit) : t.AtRest := by
  obtain ⟨l1, l2, l3, l4⟩ := hl ⟨h.leftFill, h.leftExhaust, h.rightFill, h.rightExhaust⟩
  obtain ⟨c1, c2, c3, c4, c5, c6⟩ := hc ⟨h.steerLit, h.brakeLit, h.jointLit, h.levelLit, h.doorLit, h.stationLit⟩
  refine ⟨hh ▸ h.hold, hs.1 ▸ h.lock, hs.2 ▸ h.setPoint, ?_, ?_, ?_, l1, l2, l3, l4,
    hd h.doors, c1, c2, c3, c4, c5, c6⟩
  · rw [hb]; exact h.leftWheel
  · rw [hb]; exact h.rightWheel
  · rw [hj]; exact h.damper

theorem enterInert_atRest (k : LockLevels) (s : State) : (enterInert k s).AtRest := by
  refine State.atRest_of_reset (a := s.su.latch) (by simp) (by simp) (by simp) (by simp) ?_ ?_ ?_
  · simp [LevelUnit.Closed, LevelUnit.reset, Corner.reset]
  · simpa using forall_withLocks_reset_atRest k s.du.doors
  · simpa using Telltales.allLit_lit _

theorem restartValues_atRest (k : LockLevels) (s : State) : (restartValues k s).AtRest :=
  State.atRest_of_reset rfl rfl rfl rfl ⟨rfl, rfl, rfl, rfl⟩ (forall_withLocks_reset_atRest k s.du.doors)
    ⟨rfl, rfl, rfl, rfl, rfl, rfl⟩

/-- POWERUP is left for a state that runs, or with every output as it was (R185). -/
theorem leavePowerup_rests {s : State} (h : s.AtRest) : (leavePowerup s).RestsWhenStopped := by
  obtain e | e := leavePowerup_cases s <;> rw [e]
  · intro hr
    simp [State.runs, StationState.runs] at hr
  · exact fun _ => h.of_eq rfl ⟨rfl, rfl⟩ rfl rfl id id id

/-- A notice arrival keeps the rows lit (R192). -/
theorem noteNotice_lit (ks : List EventKind) (a : Time) (s : State) (h : s.cu.telltales.Lit) :
    (noteNotice ks a s).cu.telltales.Lit := by
  unfold noteNotice; split
  · dsimp only
    generalize s.cu.telltales = t at h
    induction ks generalizing t with
    | nil => exact h
    | cons k ks ih => exact ih _ (Telltales.note_lit a _ h)
  · exact h

theorem frameBegin_lit (k : FrameKind) (s : State) (h : s.cu.telltales.Lit) : (frameBegin k s).cu.telltales.Lit := by
  unfold frameBegin; split
  · unfold afterLaunch; split
    case h_3 => exact noteNotice_lit _ _ _ h
    all_goals exact h
  · exact h

/-- Commands that are taken only while the station runs, and that leave station control. -/
def actsRunning : Instr → Bool
  | .wheelEdge .. | .speedUpdate .. | .zeroSpeedTimeout .. | .scanStart .. | .conversionComplete .. | .noticeInterval .. => true
  | .statusExpiry .. | .demandExpiry .. | .staleEpisodeBegin .. => true
  | .steeringUpdate .. | .lockReleaseTimeEnd .. | .centringSettleEnd .. | .trackingTimeEnd .. => true
  | .jointUpdate .. | .riskClearTimeEnd .. | .damperLowTimeEnd .. | .damperGoodTimeEnd .. => true
  | .brakeUpdate .. | .cabUpdate .. | .holdUpdate .. | .confirmTimeEnd .. | .applyFaultTimeEnd .. | .releaseTimeEnd .. => true
  | .levelUpdate .. | .pulseLimitEnd .. | .settleTimeEnd .. | .skirtContact .. | .closureComplete .. => true
  | .doorEvent .. | .doorUpdate .. | .driveStopEnd .. | .dwellTimeEnd .. | .doorDeadlinePassed .. => true
  | _ => false

/-- A station that drives runs. -/
theorem State.runs_of_drives {s : State} (h : s.drives = true) : s.runs = true := by
  unfold State.drives at h
  unfold State.runs
  cases hs : s.sc.station <;> simp_all [StationState.drives, StationState.runs]

/-- Such a command finds the station running and leaves it so (R4). -/
theorem effectOf_runs {c : Instr} {s : State} (hc : actsRunning c = true) (hr : readyOf c s = true) :
    (effectOf c s).runs = true := by
  have kept : (effectOf c s).sc = s.sc := by
    cases c
    case powerOn | restart | supplySettled | restartInputHigh | profileLoadComplete | frameReceived | frameGapTimeout |
      idleWaitComplete | frameBegin | transmitComplete | statusRequest | lampTestEnd | listenWindowEnd | peerSilenceTimeout |
      characterReceived | supplyLoss => cases hc
    all_goals simp [effectOf]
  have runs : s.runs = true := by
    cases c
    case wheelEdge => exact (Bool.and_eq_true_iff.mp hr).2
    case driveStopEnd =>
      simp only [readyOf, State.driveStopDue, Bool.and_eq_true] at hr
      exact State.runs_of_drives hr.1.1
    case powerOn | restart | supplySettled | restartInputHigh | profileLoadComplete | frameReceived | frameGapTimeout |
      idleWaitComplete | frameBegin | transmitComplete | statusRequest | lampTestEnd | listenWindowEnd | peerSilenceTimeout |
      characterReceived | supplyLoss => cases hc
    all_goals
      simp only [readyOf, State.speedDue, State.zeroSpeedDue, State.capturesPulses, State.scanDue, State.converting,
        State.noticeDue, State.statusExpired, State.demandExpired, State.episodeDue, State.steeringDue, State.lockReleaseDue,
        State.centringSettleDue, State.trackingDue, State.jointDue, State.riskClearDue, State.damperLowDue,
        State.damperGoodDue, State.brakeDue, State.cabDue, State.holdDue, State.confirmDue, State.applyFaultDue,
        State.releaseDue, State.levelDue, State.pulseLimitDue, State.settleDue, State.skirtDue, State.closureDue,
        State.takesDoorEvent, State.doorDue, State.dwellDue, State.doorDeadlineDue, Bool.and_eq_true] at hr
      simp only [hr]
  rw [State.runs, kept]
  exact runs

/-- An accepted frame leaves the station running (R189, R190). -/
theorem reportPeer_runs {a : Time} {s : State} (h : s.runs = true) : (reportPeer a s).runs = true := by
  show (if s.sc.station = .isolated then StationState.active else s.sc.station).runs = true
  split
  · rfl
  · exact h

theorem listenWindowEnd_runs (s : State) : (listenWindowEnd s).runs = true := by
  unfold listenWindowEnd pathEnterDriving enterIsolated
  dsimp only
  (repeat' split) <;> simp [State.runs, StationState.runs]

theorem effectOf_rests {c : Instr} {s : State} (h : s.RestsWhenStopped) (hr : readyOf c s = true) :
    (effectOf c s).RestsWhenStopped := by
  have runs {t : State} (ht : t.runs = true) : t.RestsWhenStopped := fun hf => by rw [ht] at hf; cases hf
  cases hc : actsRunning c with
  | true => exact runs (effectOf_runs hc hr)
  | false =>
    cases c
    case powerOn | supplyLoss =>
      exact fun _ => State.atRest_of_reset rfl rfl rfl rfl ⟨rfl, rfl, rfl, rfl⟩ (fun d hd => by cases hd)
        ⟨rfl, rfl, rfl, rfl, rfl, rfl⟩
    case restart k =>
      unfold effectOf restart; dsimp only; split
      next hi =>
        have rest : s.AtRest := h (by simp [State.runs, hi, StationState.runs])
        exact fun _ => rest.of_eq rfl ⟨rfl, rfl⟩ rfl rfl id id fun _ => ⟨rfl, rfl, rfl, rfl, rfl, rfl⟩
      · exact fun _ => restartValues_atRest k s
    case supplySettled =>
      simp only [readyOf, State.settles, Bool.and_eq_true, decide_eq_true_eq] at hr
      have rest : s.AtRest := h (by simp [State.runs, hr.1, StationState.runs])
      unfold effectOf
      obtain e | e := supplySettled_cases s <;> dsimp only <;> rw [e]
      · exact fun _ => rest.of_eq rfl ⟨rfl, rfl⟩ rfl rfl id id id
      · exact leavePowerup_rests (rest.of_eq rfl ⟨rfl, rfl⟩ rfl rfl id id id)
    case restartInputHigh =>
      unfold effectOf
      obtain e | ⟨hp, e⟩ | ⟨hi, e⟩ := restartInputHigh_cases s <;> dsimp only <;> rw [e]
      · exact fun hs => (h hs).of_eq rfl ⟨rfl, rfl⟩ rfl rfl id id id
      · have rest : s.AtRest := h (by simp [State.runs, hp, StationState.runs])
        exact leavePowerup_rests (rest.of_eq rfl ⟨rfl, rfl⟩ rfl rfl id id id)
      · have rest : s.AtRest := h (by simp [State.runs, hi, StationState.runs])
        exact fun _ => rest.of_eq (by simp) (by simp) (by simp) (by simp) (by simp) (by simp) (by simp)
    case profileLoadComplete m k =>
      unfold effectOf
      obtain ⟨-, e⟩ | ⟨-, -, e⟩ | ⟨-, -, e⟩ := profileLoadComplete_cases m k s <;> dsimp only <;> rw [e]
      · exact fun _ => enterInert_atRest ..
      · exact runs (by simp [State.runs, StationState.runs])
      · exact fun _ => enterInert_atRest ..
    case frameReceived k =>
      unfold effectOf
      obtain ⟨li, e, -⟩ | ⟨-, e⟩ | ⟨f, n, x, -, hs, -, e⟩ := frameReceived_cases k s <;> dsimp only <;> rw [e]
      · exact fun hs => (h hs).of_eq rfl ⟨rfl, rfl⟩ rfl rfl id id id
      · exact fun _ => enterInert_atRest ..
      · exact runs (reportPeer_runs (by simpa [State.runs, State.frameTaken] using hs))
    case listenWindowEnd => exact runs (listenWindowEnd_runs s)
    case peerSilenceTimeout => exact runs (by simp [effectOf, enterIsolated, State.runs, StationState.runs])
    case frameBegin =>
      intro hs
      have rest : s.AtRest := h (by simpa [effectOf, State.runs] using hs)
      exact rest.of_eq (by simp [effectOf]) (by simp [effectOf]) (by simp [effectOf]) (by simp [effectOf]) (by simp [effectOf])
        (by simp [effectOf]) (frameBegin_lit _ s)
    case frameGapTimeout | idleWaitComplete | transmitComplete | statusRequest | characterReceived =>
      intro hs
      have rest : s.AtRest := h (by simpa [effectOf, State.runs] using hs)
      exact rest.of_eq (by simp [effectOf]) (by simp [effectOf]) (by simp [effectOf]) (by simp [effectOf]) (by simp [effectOf])
        (by simp [effectOf]) (by simp [effectOf])
    case lampTestEnd => exact fun hs => (h hs).of_eq rfl ⟨rfl, rfl⟩ rfl rfl id id id
    all_goals cases hc

/-- Settles O60: a unit is driven while the station runs, and every way out of running resets the units. -/
theorem outputsRestKept : Obligations.OutputsRestKept := by
  intro s t hs
  have same {s t : State} (h : s.RestsWhenStopped) (hsc : t.sc = s.sc) (ht : s.AtRest → t.AtRest) : t.RestsWhenStopped :=
    fun hr => ht (h (by simpa [State.runs, hsc] using hr))
  exact step_keeps
    (fun _ _ h => same h rfl fun hr => hr.of_eq rfl ⟨rfl, rfl⟩ rfl rfl id id id)
    (fun _ _ _ _ _ => State.atRest_of_reset rfl rfl rfl rfl ⟨rfl, rfl, rfl, rfl⟩ (fun d hd => by cases hd)
      ⟨rfl, rfl, rfl, rfl, rfl, rfl⟩)
    (fun _ _ h => same h (by simp) fun hr =>
      hr.of_eq (by simp) (by simp) (by simp) (by simp) (by simp) (by simp) (by simp))
    (fun _ _ h hr => effectOf_rests h hr) hs

end Sys2Proof.Machine
end

section
/-! PROOF. The ranges of `State.Bounded`: one lemma for each operation that writes a bounded item, and what each command leaves of
them (R7, R9, R15, R18, R36, R60, R85, R87, R103, R116, R120, R122, R152, R155, R169, R176 to R182, R188). -/

namespace Sys2Proof.Machine

/-! ### Clamping -/

theorem clampNat_le {lo hi : Nat} (x : Nat) (h : lo ≤ hi) : clampNat lo hi x ≤ hi := by
  unfold clampNat; (repeat' split) <;> omega

theorem le_clampNat {lo hi : Nat} (x : Nat) (h : lo ≤ hi) : lo ≤ clampNat lo hi x := by
  unfold clampNat; (repeat' split) <;> omega

theorem clampInt_le {lo hi : Int} (x : Int) (h : lo ≤ hi) : clampInt lo hi x ≤ hi := by
  unfold clampInt; (repeat' split) <;> omega

theorem le_clampInt {lo hi : Int} (x : Int) (h : lo ≤ hi) : lo ≤ clampInt lo hi x := by
  unfold clampInt; (repeat' split) <;> omega

/-! ### The profile (R188) -/

/-- The limits of the profile that bound outputs (R94, R108, R126). -/
structure Profile.Limited (p : Profile) : Prop where
  fullLimit : p.fullLimit ≤ 2500
  pressureLimit : p.pMax ≤ 1000
  dampingFloor : ∀ r ∈ p.stations.toList, ∀ j, r.joint? = some j → j.d0 ≤ 100

theorem Profile.unloaded_limited : Profile.unloaded.Limited :=
  ⟨by decide, by decide, by simp [unloaded, StationRec.joint?]⟩

theorem Profile.clamped_limited (p : Profile) : p.clamped.Limited := by
  refine ⟨clampNat_le (lo := 0) _ (by decide), clampNat_le (lo := 200) _ (by decide), fun r hr j hj => ?_⟩
  obtain ⟨x, -, rfl⟩ : ∃ x ∈ p.stations.toList, x.clamped = r := by
    simpa [Profile.clamped, Vector.mem_map] using hr
  cases x with
  | joint n r =>
    obtain rfl : r.clamped = j := by simpa [StationRec.clamped, StationRec.joint?] using hj
    exact clampNat_le (lo := 0) _ (by decide)
  | axle | cab | absent => cases hj

/-- The own joint record's damping floor (R103, R108). -/
theorem Profile.Limited.own_d0 {s : State} {r : JointRec} (h : s.sc.prof.Limited) (hr : s.own.joint? = some r) :
    r.d0 ≤ 100 :=
  h.dampingFloor _ (by simp [State.own, Profile.station]) r hr

/-- PROFILE_LOAD_COMPLETE and the supply alone bring a profile into use, the defaults or a clamped image, and with it an empty
path queue (R59, R187, R188). -/
theorem effectOf_prof (c : Instr) (s : State) :
    (effectOf c s).sc.prof = s.sc.prof ∨ ((effectOf c s).sc.prof.Limited ∧ (effectOf c s).pu.queue = []) := by
  cases c
  case powerOn | supplyLoss => exact .inr ⟨Profile.unloaded_limited, rfl⟩
  case restart =>
    refine .inl ?_
    unfold effectOf restart; dsimp only; split <;> rfl
  case supplySettled =>
    refine .inl ?_
    unfold effectOf
    obtain e | e := supplySettled_cases s <;> dsimp only <;> rw [e]
    obtain e | e := leavePowerup_cases { s with sc := { s.sc with settled := true } } <;> rw [e]
    simp
  case restartInputHigh =>
    refine .inl ?_
    unfold effectOf
    obtain e | ⟨-, e⟩ | ⟨-, e⟩ := restartInputHigh_cases s <;> dsimp only <;> rw [e]
    · obtain e | e := leavePowerup_cases { s with sc := { s.sc with restartLow := false } } <;> rw [e]
      simp
    · simp
  case profileLoadComplete m k =>
    refine .inr ?_
    unfold effectOf
    obtain ⟨-, e⟩ | ⟨-, -, e⟩ | ⟨-, -, e⟩ := profileLoadComplete_cases m k s <;> dsimp only <;> rw [e]
    · simpa [failProfile_eq, PathUnit.reset] using Profile.unloaded_limited
    · simpa [PathUnit.reset] using Profile.clamped_limited _
    · simpa [failProfile_eq, PathUnit.reset] using Profile.clamped_limited _
  case frameReceived k =>
    refine .inl ?_
    unfold effectOf
    obtain ⟨li, e, -⟩ | ⟨-, e⟩ | ⟨f, n, x, -, -, -, e⟩ := frameReceived_cases k s <;> dsimp only <;> rw [e]
    · simp [State.duplicateFound, State.frameTaken]
    · simp [reportPeer, State.frameTaken]
  case listenWindowEnd =>
    refine .inl ?_
    unfold effectOf listenWindowEnd enterIsolated
    dsimp only
    split <;> simp
  case peerSilenceTimeout => exact .inl rfl
  all_goals exact .inl (by simp [effectOf])

/-! ### Units that are kept or reset together -/

/-- The command steps pulse capture, the channels, the joint unit or the brake unit itself. -/
def stepsPhysical : Instr → Bool
  | .wheelEdge .. | .speedUpdate .. | .zeroSpeedTimeout .. | .conversionComplete .. => true
  | .jointUpdate .. | .riskClearTimeEnd .. | .damperLowTimeEnd .. | .damperGoodTimeEnd .. | .brakeUpdate .. => true
  | .levelUpdate .. | .pulseLimitEnd .. | .settleTimeEnd .. | .skirtContact .. | .closureComplete .. => true
  | _ => false

/-- Pulse capture, the channels, the joint unit and the brake unit stay, a scan at most beginning (R15). -/
structure State.PhysicalKept (s t : State) : Prop where
  pc : t.pc = s.pc
  channels : t.cs.channels = s.cs.channels
  conv : t.cs.conv = s.cs.conv ∨ t.cs.conv = firstConversion t.own
  ju : t.ju = s.ju
  bu : t.bu = s.bu

/-- Pulse capture, the scan, the joint unit and the brake unit at their reset values (R5, R21, R107, R125). -/
structure State.PhysicalReset (t : State) : Prop where
  pc : t.pc = PulseCapture.reset
  cs : t.cs = Scan.reset
  ju : t.ju = JointUnit.reset
  bu : t.bu = BrakeUnit.reset

theorem State.PhysicalKept.of_eq {s t : State} (hp : t.pc = s.pc) (hc : t.cs = s.cs) (hj : t.ju = s.ju) (hb : t.bu = s.bu) :
    s.PhysicalKept t := ⟨hp, by rw [hc], .inl (by rw [hc]), hj, hb⟩

theorem enterListening_physicalKept (s : State) : s.PhysicalKept (enterListening s) := by
  constructor <;> try simp
  exact .inr (by rw [State.own, State.own]; simp)

theorem leavePowerup_physicalKept (s : State) : s.PhysicalKept (leavePowerup s) := by
  obtain e | e := leavePowerup_cases s <;> rw [e]
  · obtain ⟨hp, hc, hv, hj, hb⟩ := enterListening_physicalKept { s with cu := { s.cu with lampStart := some s.now } }
    exact ⟨hp, hc, hv, hj, hb⟩
  · exact .of_eq rfl rfl rfl rfl

theorem enterInert_physicalReset (k : LockLevels) (s : State) : (enterInert k s).PhysicalReset := by
  constructor <;> simp

/-- A command that steps none of these units itself keeps them or resets them together. -/
theorem effectOf_physical {c : Instr} {s : State} (hc : stepsPhysical c = false) :
    s.PhysicalKept (effectOf c s) ∨ (effectOf c s).PhysicalReset := by
  cases c
  case powerOn | supplyLoss => exact .inr ⟨rfl, rfl, rfl, rfl⟩
  case restart =>
    unfold effectOf restart; dsimp only; split
    · exact .inl (.of_eq rfl rfl rfl rfl)
    · exact .inr ⟨rfl, rfl, rfl, rfl⟩
  case supplySettled =>
    refine .inl ?_
    unfold effectOf
    obtain e | e := supplySettled_cases s <;> dsimp only <;> rw [e]
    · exact .of_eq rfl rfl rfl rfl
    · obtain ⟨hp, hc, hv, hj, hb⟩ := leavePowerup_physicalKept { s with sc := { s.sc with settled := true } }
      exact ⟨hp, hc, hv, hj, hb⟩
  case restartInputHigh =>
    refine .inl ?_
    unfold effectOf
    obtain e | ⟨-, e⟩ | ⟨-, e⟩ := restartInputHigh_cases s <;> dsimp only <;> rw [e]
    · exact .of_eq rfl rfl rfl rfl
    · obtain ⟨hp, hc, hv, hj, hb⟩ := leavePowerup_physicalKept { s with sc := { s.sc with restartLow := false } }
      exact ⟨hp, hc, hv, hj, hb⟩
    · exact .of_eq (by simp) (by simp) (by simp) (by simp)
  case profileLoadComplete m k =>
    unfold effectOf
    obtain ⟨-, e⟩ | ⟨-, -, e⟩ | ⟨-, -, e⟩ := profileLoadComplete_cases m k s <;> dsimp only <;> rw [e]
    · exact .inr (enterInert_physicalReset ..)
    · obtain ⟨hp, hc, hv, hj, hb⟩ := enterListening_physicalKept
        { useImage m s with sc := { (useImage m s).sc with check := .passed, crcFailed := false } }
      refine .inl ⟨hp.trans ?_, hc.trans ?_, hv.imp_left fun hv => hv.trans ?_, hj.trans ?_, hb.trans ?_⟩ <;> simp
    · exact .inr (enterInert_physicalReset ..)
  case frameReceived k =>
    unfold effectOf
    obtain ⟨li, e, -⟩ | ⟨-, e⟩ | ⟨f, n, x, -, -, -, e⟩ := frameReceived_cases k s <;> dsimp only <;> rw [e]
    · exact .inl (.of_eq rfl rfl rfl rfl)
    · exact .inr (enterInert_physicalReset ..)
    · exact .inl (.of_eq (by simp [State.frameTaken]) (by simp [State.frameTaken]) (by simp [State.frameTaken])
        (by simp [State.frameTaken]))
  case scanStart => exact .inl ⟨rfl, rfl, .inr rfl, rfl, rfl⟩
  case wheelEdge | speedUpdate | zeroSpeedTimeout | conversionComplete | jointUpdate | riskClearTimeEnd | damperLowTimeEnd |
    damperGoodTimeEnd | brakeUpdate | levelUpdate | pulseLimitEnd | settleTimeEnd | skirtContact | closureComplete => cases hc
  all_goals
    exact .inl (.of_eq (by simp [effectOf]) (by simp [effectOf]) (by simp [effectOf]) (by simp [effectOf]))

/-! ### Pulse capture (R7, R9, R11) -/

/-- A snapshot queue holds up to eight edges, and a speed is limited to 65,535 mm/s. -/
def Wheel.Bounded (w : Wheel) : Prop := w.queue.length ≤ 8 ∧ w.speed ≤ 65535

/-- Both wheels, and the axle speed. -/
structure PulseCapture.Bounded (p : PulseCapture) : Prop where
  left : p.left.Bounded
  right : p.right.Bounded
  axleSpeed : p.axleSpeed ≤ 65535

theorem PulseCapture.reset_bounded : PulseCapture.reset.Bounded :=
  ⟨⟨by simp [reset], by simp [reset]⟩, ⟨by simp [reset], by simp [reset]⟩, by simp [reset]⟩

/-- A full queue loses its oldest edge to the newest (R7). -/
theorem Wheel.append_bounded {w : Wheel} (e : Snapshot) (h : w.Bounded) : (w.append e).Bounded := by
  obtain ⟨hq, hv⟩ := h
  refine ⟨?_, hv⟩
  unfold Wheel.append
  split
  · simp; omega
  next hf =>
    have : Config.snapshotDepth = 8 := rfl
    simp; omega

theorem PulseCapture.setWheel_bounded {p : PulseCapture} {w : Wheel} (side : Side) (h : p.Bounded) (hw : w.Bounded) :
    (p.setWheel side w).Bounded := by
  cases side
  · exact ⟨hw, h.right, h.axleSpeed⟩
  · exact ⟨h.left, hw, h.axleSpeed⟩

theorem PulseCapture.Bounded.wheel {p : PulseCapture} (h : p.Bounded) (side : Side) : (p.wheel side).Bounded := by
  cases side
  · exact h.left
  · exact h.right

/-- The bounds do not speak of the direction and the odometers. -/
theorem PulseCapture.Bounded.of_eq {p q : PulseCapture} (h : p.Bounded) (hl : q.left = p.left) (hr : q.right = p.right)
    (hv : q.axleSpeed = p.axleSpeed) : q.Bounded :=
  ⟨hl ▸ h.left, hr ▸ h.right, hv ▸ h.axleSpeed⟩

@[simp] theorem recordEdge_pc (w : Side) (d : Direction) (s : State) :
    (recordEdge w d s).pc = s.pc.setWheel w ((s.pc.wheel w).append ⟨s.now, d⟩) := by
  simp [recordEdge]

/-- The path odometer after an edge at the leading axle: it starts from 0 after REVERSE (R12). -/
def State.pathOdoAfter (d : Direction) (s : State) : Dist :=
  match d, s.pc.direction with
  | .forward, .forward => s.pc.pathOdo + s.halfPitch
  | .forward, .reverse => s.halfPitch
  | .reverse, _ => s.pc.pathOdo

/-- The own odometer after an edge at a following axle (R13). -/
def State.ownOdoAfter (d : Direction) (s : State) : Dist :=
  match d with
  | .forward => s.pc.ownOdo + s.halfPitch
  | .reverse => s.pc.ownOdo

@[simp] theorem leadingEdge_pc (d : Direction) (s : State) :
    (leadingEdge d s).pc = { s.pc with direction := d, pathOdo := s.pathOdoAfter d } := by
  unfold leadingEdge State.pathOdoAfter
  cases d with
  | forward => cases hd : s.pc.direction <;> simp [hd]
  | reverse => simp

@[simp] theorem followingEdge_pc (d : Direction) (s : State) :
    (followingEdge d s).pc = { s.pc with direction := d, ownOdo := s.ownOdoAfter d } := by
  cases d <;> simp [followingEdge, State.ownOdoAfter]

@[simp] theorem PulseCapture.setWheel_fields (p : PulseCapture) (side : Side) (w : Wheel) :
    (p.setWheel side w).axleSpeed = p.axleSpeed ∧ (p.setWheel side w).direction = p.direction ∧
    (p.setWheel side w).pathOdo = p.pathOdo ∧ (p.setWheel side w).ownOdo = p.ownOdo := by
  cases side <;> simp [PulseCapture.setWheel]

/-- Pulse capture after an edge: its wheel's queue, the direction, and one odometer (R7, R8, R12, R13). -/
theorem wheelEdge_pc (w : Side) (d : Direction) (s : State) :
    (wheelEdge w d s).pc =
      { s.pc.setWheel w ((s.pc.wheel w).append ⟨s.now, d⟩) with
        direction := d
        pathOdo := if s.own.isLeading then s.pathOdoAfter d else s.pc.pathOdo
        ownOdo := if s.own.isLeading then s.pc.ownOdo else s.ownOdoAfter d } := by
  have half : (recordEdge w d s).halfPitch = s.halfPitch := by
    simp only [State.halfPitch, State.own, recordEdge_frame]
  unfold wheelEdge
  dsimp only
  split
  · simp [State.pathOdoAfter, half]
  · simp [State.ownOdoAfter, half]

theorem wheelEdge_pc_bounded {s : State} (w : Side) (d : Direction) (h : s.pc.Bounded) : (wheelEdge w d s).pc.Bounded := by
  rw [wheelEdge_pc]
  exact (PulseCapture.setWheel_bounded w h (Wheel.append_bounded _ (h.wheel w))).of_eq rfl rfl rfl

theorem Wheel.update_bounded {w : Wheel} (now : Time) (pitch : Nat) (h : w.Bounded) : (w.update now pitch).Bounded := by
  unfold Wheel.update
  (repeat' split)
  · simp [Wheel.Bounded]
  · simp [Wheel.Bounded, spanSpeed]
  · exact h
  · simp [Wheel.Bounded]

theorem speedUpdate_pc_bounded {s : State} (h : s.pc.Bounded) : (speedUpdate s).pc.Bounded := by
  have hl := Wheel.update_bounded s.now s.pitch h.left
  have hr := Wheel.update_bounded s.now s.pitch h.right
  refine ⟨hl, hr, ?_⟩
  have mean : (speedUpdate s).pc.axleSpeed =
    ((s.pc.left.update s.now s.pitch).speed + (s.pc.right.update s.now s.pitch).speed) / 2 := rfl
  have := hl.2
  have := hr.2
  omega

theorem effectOf_pc_bounded {c : Instr} {s : State} (h : s.pc.Bounded) : (effectOf c s).pc.Bounded := by
  cases hc : stepsPhysical c with
  | false =>
    obtain e | e := effectOf_physical (s := s) hc <;> rw [e.pc]
    · exact h
    · exact PulseCapture.reset_bounded
  | true =>
    cases c
    case wheelEdge w d => exact wheelEdge_pc_bounded w d h
    case speedUpdate | zeroSpeedTimeout => exact speedUpdate_pc_bounded h
    case conversionComplete | jointUpdate | riskClearTimeEnd | damperLowTimeEnd | damperGoodTimeEnd | brakeUpdate |
      levelUpdate | pulseLimitEnd | settleTimeEnd | skirtContact | closureComplete => simpa [effectOf] using h
    all_goals cases hc

/-! ### The converter scan (R15, R16, R18) -/

/-- A conversion stands at mid-scale, and every channel record lies in its ranges. -/
structure Scan.Bounded (c : Scan) : Prop where
  trial : ∀ v, c.conv = some v → v.trial = 512
  channels : ∀ x ∈ c.channels.toList, x.Bounded

theorem Scan.reset_bounded : Scan.reset.Bounded := by
  refine ⟨fun v hv => (by cases hv), fun x hx => ?_⟩
  obtain rfl : x = Channel.reset := by simpa [Scan.reset] using hx
  exact ⟨by decide, by decide, fun h => by cases h⟩

theorem firstConversion_trial {own : StationRec} {v : Conversion} (h : firstConversion own = some v) : v.trial = 512 := by
  unfold firstConversion at h
  split at h
  · cases h
  · cases h; rfl

/-- The rows of R18 stay in the ranges of a channel record. -/
theorem Channel.complete_bounded {c : Channel} (code : BitVec 10) (new : Int) (h : c.Bounded) :
    (c.complete code new).Bounded := by
  obtain ⟨hh, hg, -⟩ := h
  unfold Channel.complete
  split
  · simp [Channel.Bounded]
  · simp [Channel.Bounded]
  · split
    · simp [Channel.Bounded]; omega
    · simp [Channel.Bounded]
  · split
    · simp [Channel.Bounded, hh]; omega
    · simp [Channel.Bounded]
  · simp [Channel.Bounded]
  · split
    · simp [Channel.Bounded]; omega
    · simp [Channel.Bounded]

@[simp] theorem completeConversion_cs (i : Fin 8) (code : BitVec 10) (s : State) :
    (completeConversion i code s).cs =
      { channels := s.cs.channels.set i ((s.channel i).complete code
          (corrected (s.sc.prof.calibration s.own i.val) (channelRange s.own i.val) code))
        conv := (nextChannel i s.own.channelCount).map Conversion.select } := by
  unfold completeConversion; dsimp only; split <;> simp

theorem completeConversion_cs_bounded {s : State} (i : Fin 8) (code : BitVec 10) (h : s.cs.Bounded) :
    (completeConversion i code s).cs.Bounded := by
  rw [completeConversion_cs]
  refine ⟨fun v hv => ?_, fun x hx => ?_⟩
  · obtain ⟨j, -, rfl⟩ := Option.map_eq_some_iff.mp hv
    rfl
  · rw [Vector.mem_toList_iff] at hx
    have hx : x ∈ s.cs.channels.set i ((s.channel i).complete code
        (corrected (s.sc.prof.calibration s.own i.val) (channelRange s.own i.val) code)) := hx
    obtain hx | rfl := Vector.mem_or_eq_of_mem_set hx
    · exact h.channels x (Vector.mem_toList_iff.mpr hx)
    · exact Channel.complete_bounded _ _ (h.channels _ (by simp [State.channel]))

theorem conversionComplete_cs_bounded {s : State} (input : BitVec 10) (h : s.cs.Bounded) :
    (conversionComplete input s).cs.Bounded := by
  unfold conversionComplete; split
  · exact completeConversion_cs_bounded _ _ h
  · exact h

theorem effectOf_cs_bounded {c : Instr} {s : State} (h : s.cs.Bounded) : (effectOf c s).cs.Bounded := by
  cases hc : stepsPhysical c with
  | false =>
    obtain e | e := effectOf_physical (s := s) hc
    · refine ⟨fun v hv => ?_, by rw [e.channels]; exact h.channels⟩
      obtain he | he := e.conv <;> rw [he] at hv
      · exact h.trial v hv
      · exact firstConversion_trial hv
    · rw [e.cs]
      exact Scan.reset_bounded
  | true =>
    cases c
    case conversionComplete input => exact conversionComplete_cs_bounded input h
    case wheelEdge | speedUpdate | zeroSpeedTimeout | jointUpdate | riskClearTimeEnd | damperLowTimeEnd | damperGoodTimeEnd |
      brakeUpdate | levelUpdate | pulseLimitEnd | settleTimeEnd | skirtContact | closureComplete => simpa [effectOf] using h
    all_goals cases hc

end Sys2Proof.Machine
end

section
/-! PROOF. The ranges of `State.Bounded`, continued: steering, joint, brake and level units, doors, path queue and event summary, and
the invariant itself. -/

namespace Sys2Proof.Machine

/-! ### Steering (R85, R87) -/

/-- Command and set-point lie in −2,500 to 2,500 cdeg. -/
def SteeringUnit.Bounded (u : SteeringUnit) : Prop := u.command.natAbs ≤ 2500 ∧ u.setPoint.natAbs ≤ 2500

/-- The limit falls with the reference speed from the full limit (R85, R86). -/
theorem State.steerLimit_le {s : State} (h : s.sc.prof.Limited) : s.steerLimit ≤ 2500 := by
  have speed : speedLimit s.sc.prof s.refSpeed ≤ 2500 := by
    refine le_trans ?_ h.fullLimit
    unfold speedLimit
    cases s.refSpeed with
    | none => exact Nat.zero_le _
    | some v =>
      dsimp only
      split
      · exact le_rfl
      · split
        · exact Nat.div_le_of_le_mul (by rw [Nat.mul_comm]; exact Nat.mul_le_mul_right _ (by omega))
        · exact Nat.zero_le _
  unfold State.steerLimit
  split
  · exact speed
  · exact le_trans (min_le_left _ _) speed

/-- A rate step ends between the value it starts from and its target (R87). -/
theorem rateStep_natAbs_le {n rate : Nat} {a b : Int} (ha : a.natAbs ≤ n) (hb : b.natAbs ≤ n) :
    (rateStep rate a b).natAbs ≤ n := by
  unfold rateStep; (repeat' split) <;> omega

theorem clampInt_natAbs_le {n m : Nat} (x : Int) (h : n ≤ m) : (clampInt (-(n : Int)) n x).natAbs ≤ m := by
  have := clampInt_le (lo := -(n : Int)) (hi := n) x (by omega)
  have := le_clampInt (lo := -(n : Int)) (hi := n) x (by omega)
  omega

/-- Every transition keeps the command within the limit (R85 to R88). -/
theorem State.steerTransition_bounded {s : State} {r : AxleRec} {b : Bool} {f : Lookup} (hp : s.sc.prof.Limited)
    (h : s.su.command.natAbs ≤ 2500) : (s.steerTransition r b f).command.natAbs ≤ 2500 := by
  have m := s.steerTransition_move r b f
  generalize s.steerTransition r b f = u at m ⊢
  have limit := State.steerLimit_le hp
  cases m
  case stays => exact h
  case unlocks | staysLocked | locks => exact Nat.zero_le _
  case follows => exact rateStep_natAbs_le h (clampInt_natAbs_le _ limit)
  case holds => exact rateStep_natAbs_le h (clampInt_natAbs_le _ limit)
  case centres => exact rateStep_natAbs_le h (Nat.zero_le _)

theorem steeringUpdate_su_bounded {s : State} (hp : s.sc.prof.Limited) (h : s.su.Bounded) :
    (steeringUpdate s).su.Bounded := by
  cases ho : s.own.axle? with
  | none => simpa [steeringUpdate, ho] using h
  | some r =>
    rw [steeringUpdate_su ho]
    have hc : (trackingCheck s).su.command.natAbs ≤ 2500 := by simpa using h.1
    have hb := State.steerTransition_bounded (s := trackingCheck s) (r := r)
      (b := (trackingCheck s).followConditions r)
      (f := lookupAt ((trackingCheck s).axlePosition r) (trackingCheck s).pu.queue) (by simpa using hp) hc
    exact ⟨hb, hb⟩

theorem effectOf_su_bounded {c : Instr} {s : State} (hp : s.sc.prof.Limited) (h : s.su.Bounded) :
    (effectOf c s).su.Bounded := by
  cases hc : stepsOwner c with
  | false =>
    have m := effectOf_ownerMove (s := s) hc
    generalize (effectOf c s).su = su, (effectOf c s).hu = hu, (effectOf c s).lu = lu at m ⊢
    cases m
    case kept | cleared | listening | profiled => exact h
    case inert | restarted | unpowered => exact ⟨Nat.zero_le _, Nat.zero_le _⟩
  | true =>
    cases c
    case steeringUpdate | lockReleaseTimeEnd | centringSettleEnd | trackingTimeEnd => exact steeringUpdate_su_bounded hp h
    case wheelEdge w d =>
      obtain e | ⟨d1, e⟩ := wheelEdge_su w d s
      · exact e ▸ h
      · unfold effectOf; dsimp only; rw [e]
        exact ⟨clampInt_natAbs_le (n := 2500) _ le_rfl, h.2⟩
    case holdUpdate | confirmTimeEnd | applyFaultTimeEnd | releaseTimeEnd | levelUpdate | pulseLimitEnd | settleTimeEnd |
      skirtContact | closureComplete => simpa [effectOf] using h
    all_goals cases hc

/-! ### The joint unit (R103) -/

/-- Damping command and output lie in 0 to 100. -/
def JointUnit.Bounded (u : JointUnit) : Prop := u.damping ≤ 100 ∧ u.output ≤ 100

theorem dampingCommand_le {r : JointRec} (v : Option Nat) (w : JointView) (beyond : Bool) (h : r.d0 ≤ 100) :
    dampingCommand r v w beyond ≤ 100 := by
  unfold dampingCommand; split
  · exact le_rfl
  · exact clampNat_le _ h

/-- Without a joint record a joint update changes nothing, and in LISTENING it leaves the joint unit (R96). -/
theorem jointUpdate_ju_bounded {s : State} (hp : s.sc.prof.Limited) (h : s.ju.Bounded) : (jointUpdate s).ju.Bounded := by
  unfold jointUpdate
  split
  next r hr =>
    dsimp only
    split
    · simp only [State.trimQueue_frame, jointStep, State.raiseIf_frame]
      exact ⟨dampingCommand_le _ _ _ (hp.own_d0 hr), dampingCommand_le _ _ _ (hp.own_d0 hr)⟩
    · simpa using h
  · exact h

theorem effectOf_ju_bounded {c : Instr} {s : State} (hp : s.sc.prof.Limited) (h : s.ju.Bounded) :
    (effectOf c s).ju.Bounded := by
  cases hc : stepsPhysical c with
  | false =>
    obtain e | e := effectOf_physical (s := s) hc <;> rw [e.ju]
    · exact h
    · exact ⟨le_rfl, le_rfl⟩
  | true =>
    cases c
    case jointUpdate | riskClearTimeEnd | damperLowTimeEnd | damperGoodTimeEnd => exact jointUpdate_ju_bounded hp h
    case wheelEdge | speedUpdate | zeroSpeedTimeout | conversionComplete | brakeUpdate | levelUpdate | pulseLimitEnd |
      settleTimeEnd | skirtContact | closureComplete => simpa [effectOf] using h
    all_goals cases hc

/-! ### The brake unit (R116, R120, R122) -/

/-- A wheel under an axle demand: its count below three, its target and set-point at most the demand. -/
structure BrakeWheel.Bounded (w : BrakeWheel) (demand : Nat) : Prop where
  holdGood : w.holdGood ≤ 2
  target : w.target ≤ demand
  setPoint : w.setPoint ≤ demand

structure BrakeUnit.Bounded (b : BrakeUnit) : Prop where
  left : b.left.Bounded b.demand
  right : b.right.Bounded b.demand
  demand : b.demand ≤ 1000

theorem BrakeUnit.reset_bounded : BrakeUnit.reset.Bounded :=
  ⟨⟨Nat.zero_le _, Nat.zero_le _, Nat.zero_le _⟩, ⟨Nat.zero_le _, Nat.zero_le _, Nat.zero_le _⟩, Nat.zero_le _⟩

/-- A slip step clears the count at three (R120). -/
theorem BrakeWheel.slipStep_holdGood {w : BrakeWheel} (demand : Nat) (slip : Int) (h : w.holdGood ≤ 2) :
    (w.slipStep demand slip).holdGood ≤ 2 := by
  have reapply : (w.reapplyStep demand).holdGood ≤ 2 := by
    unfold BrakeWheel.reapplyStep; split <;> exact Nat.zero_le _
  unfold BrakeWheel.slipStep
  cases w.slip <;> dsimp only <;> (repeat' split)
  case holdP.isFalse.isFalse.isTrue => simp only; omega
  case apply.isFalse => exact h
  case holdP.isFalse.isFalse.isFalse | reapply.isFalse => exact reapply
  all_goals exact Nat.zero_le _

theorem BrakeWheel.update_bounded {w : BrakeWheel} (demand : Nat) (slip : Option Int) (h : w.holdGood ≤ 2) :
    (w.update demand slip).Bounded demand := by
  refine ⟨?_, min_le_right _ _, min_le_right _ _⟩
  cases slip with
  | none => exact Nat.zero_le _
  | some x => exact BrakeWheel.slipStep_holdGood demand x h

/-- The axle demand is limited (R116, R126). -/
theorem State.axleDemand_le {s : State} (r : AxleRec) (load a : Nat) (h : s.sc.prof.Limited) :
    s.axleDemand r load a ≤ 1000 := by
  have := clampInt_le (lo := 0) (hi := s.sc.prof.pMax) (s.stretched r (baseDemand r load a)) (by omega)
  have := h.pressureLimit
  unfold State.axleDemand
  omega

theorem brakeUpdate_bu_bounded {s : State} (hp : s.sc.prof.Limited) (h : s.bu.Bounded) : (brakeUpdate s).bu.Bounded := by
  cases ho : s.own.axle? with
  | none => simpa [brakeUpdate, ho] using h
  | some r =>
    have loaded : (s.withLoad r).bu.Bounded := ⟨h.left, h.right, h.demand⟩
    rw [brakeUpdate_bu ho]; split
    · rw [brakeStep_bu]
      exact ⟨BrakeWheel.update_bounded _ _ loaded.left.holdGood, BrakeWheel.update_bounded _ _ loaded.right.holdGood,
        State.axleDemand_le _ _ _ (by simpa using hp)⟩
    · exact loaded

theorem effectOf_bu_bounded {c : Instr} {s : State} (hp : s.sc.prof.Limited) (h : s.bu.Bounded) :
    (effectOf c s).bu.Bounded := by
  obtain e | e | e | e := effectOf_bu c s <;> rw [e]
  · exact h
  · exact BrakeUnit.reset_bounded
  · exact brakeUpdate_bu_bounded hp h
  · exact ⟨h.left, h.right, h.demand⟩

/-! ### The level unit (R152, R155) -/

/-- A height history holds up to eight samples, and the progress counter counts to four. -/
def Corner.Bounded (c : Corner) : Prop := c.history.length ≤ 8 ∧ c.progress ≤ 4

def LevelUnit.Bounded (l : LevelUnit) : Prop := l.left.Bounded ∧ l.right.Bounded

theorem LevelUnit.reset_bounded (h : Nat) (a b : Bool) : (LevelUnit.reset h a b).Bounded :=
  ⟨⟨Nat.zero_le _, Nat.zero_le _⟩, Nat.zero_le _, Nat.zero_le _⟩

/-- A full history loses its oldest sample (R152). -/
theorem Corner.sample_bounded {c : Corner} (v : Option Int) (still : Bool) (h : c.Bounded) : (c.sample v still).Bounded := by
  obtain ⟨hh, hp⟩ := h
  cases v with
  | none => exact ⟨hh, hp⟩
  | some v =>
    refine ⟨?_, hp⟩
    have : Config.historyDepth = 8 := rfl
    show (c.appended v).length ≤ 8
    unfold Corner.appended
    split <;> simp <;> omega

theorem Corner.clearBar_bounded {c : Corner} (v : CornerView) (h : c.Bounded) : (c.clearBar v).Bounded := by
  unfold Corner.clearBar; split <;> exact h

/-- A settled corner counts one pulse more, and stops at four (R155). -/
theorem Corner.settlingStep_bounded {c : Corner} (v : CornerView) (h : c.Bounded) : (c.settlingStep v).Bounded := by
  unfold Corner.settlingStep; (repeat' split)
  · exact ⟨h.1, le_rfl⟩
  next hc => exact ⟨h.1, (Nat.lt_of_not_le hc).le⟩
  · exact h

theorem Corner.phaseStep_bounded {c : Corner} (v : CornerView) (h : c.Bounded) : (c.phaseStep v).Bounded := by
  unfold Corner.phaseStep
  cases c.phase <;> dsimp only
  case steady => unfold Corner.steadyStep; (repeat' split) <;> exact h
  case filling => unfold Corner.fillingStep; (repeat' split) <;> exact h
  case exhausting => unfold Corner.exhaustingStep; (repeat' split) <;> exact h
  case closing => split <;> exact h
  case settling =>
    split
    · exact Corner.settlingStep_bounded v h
    · exact h
  case fault =>
    unfold Corner.faultStep; split
    · exact ⟨h.1, Nat.zero_le _⟩
    · exact h

theorem Corner.step_bounded {c : Corner} (v : CornerView) (restart : Bool) (h : c.Bounded) : (c.step v restart).Bounded := by
  have bar := Corner.clearBar_bounded v h
  unfold Corner.step; split
  · exact bar
  · exact Corner.phaseStep_bounded v bar

theorem LevelUnit.settleAbort_bounded {l : LevelUnit} (r : Nat) (h : l.Bounded) : (l.settleAbort r).Bounded := by
  unfold LevelUnit.settleAbort; split <;> exact h

theorem State.contactLevel_bounded {s : State} (h : s.lu.Bounded) : s.contactLevel.Bounded := by
  have stopped {c : Corner} (hc : c.Bounded) : (c.stopExhaust s.now).Bounded := by
    unfold Corner.stopExhaust; split <;> exact hc
  exact LevelUnit.settleAbort_bounded _ ⟨stopped h.1, stopped h.2⟩

theorem State.levelAfter_bounded {s : State} (skirt acted : Bool) (h : s.lu.Bounded) : (s.levelAfter skirt acted).Bounded :=
  ⟨Corner.step_bounded (c := (s.targetedLevel skirt acted).left) _ _ (Corner.sample_bounded _ _ h.1),
    Corner.step_bounded (c := (s.targetedLevel skirt acted).right) _ _ (Corner.sample_bounded _ _ h.2)⟩

theorem levelUpdate_bounded {s : State} (skirt : Bool) (h : s.lu.Bounded) : (levelUpdate skirt s).lu.Bounded := by
  unfold levelUpdate; split <;> rw [levelStep_lu]
  · exact State.levelAfter_bounded _ _ (by simpa using State.contactLevel_bounded h)
  · exact State.levelAfter_bounded _ _ h

theorem closureComplete_bounded {s : State} (side : Side) (h : s.lu.Bounded) : (closureComplete side s).lu.Bounded := by
  have closed {c : Corner} (hc : c.Bounded) : c.closed.Bounded := by
    unfold Corner.closed; split <;> exact hc
  refine LevelUnit.settleAbort_bounded _ ?_
  cases side
  · exact ⟨closed h.1, h.2⟩
  · exact ⟨h.1, closed h.2⟩

theorem effectOf_lu_bounded {c : Instr} {s : State} (h : s.lu.Bounded) : (effectOf c s).lu.Bounded := by
  cases hc : stepsOwner c with
  | false =>
    have m := effectOf_ownerMove (s := s) hc
    generalize (effectOf c s).su = su, (effectOf c s).hu = hu, (effectOf c s).lu = lu at m ⊢
    cases m
    case kept | cleared | listening | profiled => exact h
    case inert | unpowered => exact LevelUnit.reset_bounded ..
    case restarted => exact LevelUnit.reset_bounded _ false false
  | true =>
    cases c
    case levelUpdate | pulseLimitEnd | settleTimeEnd => exact levelUpdate_bounded _ h
    case skirtContact => simpa [effectOf] using State.contactLevel_bounded h
    case closureComplete => exact closureComplete_bounded _ h
    case wheelEdge | steeringUpdate | lockReleaseTimeEnd | centringSettleEnd | trackingTimeEnd | holdUpdate | confirmTimeEnd |
      applyFaultTimeEnd | releaseTimeEnd => simpa [effectOf] using h
    all_goals cases hc

/-! ### The doors (R169, R176 to R182) -/

/-- A door's obstruction count, and its mark of a door held for the clear event. -/
def Door.Bounded (d : Door) : Prop :=
  d.CountBounded ∧ (d.heldFault = true → d.state = .fault ∧ d.lockedFault = false)

/-- A door in a state that three obstructions do not reach counts two at most, and is not held. -/
theorem Door.Bounded.count_le {d : Door} (h : d.Bounded) (hr : d.state ≠ .reversing) (hf : d.state ≠ .fault)
    (hl : d.state ≠ .locking) (ho : d.state = .opened → d.latch = false) : d.count ≤ 2 := by
  obtain ⟨⟨hc, h3⟩, -⟩ := h
  by_contra hn
  obtain h | h | h | ⟨h, hl'⟩ := h3 (by omega)
  · exact hr h
  · exact hf h
  · exact hl h
  · simp [ho h] at hl'

theorem Door.Bounded.not_held {d : Door} (h : d.Bounded) (hf : d.state ≠ .fault) : d.heldFault = false := by
  by_contra hh
  exact hf (h.2 (by simpa using hh)).1

/-- Two obstructions at most, and no mark. -/
theorem Door.bounded_of_le {d : Door} (hc : d.count ≤ 2) (hh : d.heldFault = false) : d.Bounded :=
  ⟨⟨by omega, by omega⟩, by simp [hh]⟩

/-- A door that three obstructions may have reached. -/
theorem Door.bounded_of_state {d : Door} (hc : d.count ≤ 3)
    (hs : d.state = .reversing ∨ d.state = .fault ∨ d.state = .locking) (hh : d.heldFault = false) : d.Bounded :=
  ⟨⟨hc, fun _ => by tauto⟩, by simp [hh]⟩

theorem Door.periodic_bounded {d : Door} (v : DoorView) (i : DoorInputs) (h : d.Bounded) : (d.periodic v i).Bounded := by
  have count := h.1.1
  have fault (hn : d.state ≠ .fault) : (d.orFault v i).Bounded := by
    unfold Door.orFault; split
    · exact Door.bounded_of_state count (.inr (.inl rfl)) (h.not_held hn)
    · exact h
  unfold Door.periodic
  cases hs : d.state <;> dsimp only
  case fault =>
    unfold Door.report
    rw [if_pos hs]
    exact ⟨⟨count, fun _ => .inr (.inl hs)⟩, fun hh => ⟨hs, by simp_all⟩⟩
  all_goals
    have held := h.not_held (by simp [hs])
    have fault := fault (by simp [hs])
  case locked =>
    have two := h.count_le (by simp [hs]) (by simp [hs]) (by simp [hs]) (by simp [hs])
    unfold Door.lockedStep; (repeat' split)
    · exact Door.bounded_of_le two held
    · exact Door.bounded_of_le two held
    · exact h
  case unlocking =>
    have two := h.count_le (by simp [hs]) (by simp [hs]) (by simp [hs]) (by simp [hs])
    unfold Door.unlockingStep; (repeat' split)
    · exact Door.bounded_of_le two held
    · exact Door.bounded_of_le two held
    · exact fault
  case released =>
    have two := h.count_le (by simp [hs]) (by simp [hs]) (by simp [hs]) (by simp [hs])
    unfold Door.releasedStep; (repeat' split)
    · exact Door.bounded_of_le two held
    · exact h
    · exact Door.bounded_of_le two held
    · exact h
  case opening =>
    have two := h.count_le (by simp [hs]) (by simp [hs]) (by simp [hs]) (by simp [hs])
    unfold Door.openingStep; split
    · exact Door.bounded_of_le two held
    · exact fault
  case opened =>
    have read : (d.beamRead v i).Bounded ∧ (d.beamRead v i).count = d.count ∧ (d.beamRead v i).latch = d.latch ∧
        (d.beamRead v i).heldFault = d.heldFault := by
      unfold Door.beamRead; split <;> exact ⟨h, rfl, rfl, rfl⟩
    obtain ⟨read, hcount, hlatch, hheld⟩ := read
    unfold Door.openedStep; split
    next hm =>
      simp only [Door.mayClose, Bool.and_eq_true, Bool.not_eq_true'] at hm
      have two := h.count_le (by simp [hs]) (by simp [hs]) (by simp [hs]) fun _ => hlatch.symm.trans hm.1
      exact Door.bounded_of_le (hcount.trans_le two) (hheld.trans held)
    · exact read
  case closing =>
    have two := h.count_le (by simp [hs]) (by simp [hs]) (by simp [hs]) (by simp [hs])
    unfold Door.closingStep; (repeat' split)
    · exact Door.bounded_of_state (Nat.succ_le_succ two) (.inl rfl) held
    · exact Door.bounded_of_le two held
    · exact fault
  case reversing =>
    unfold Door.reversingStep; split
    · refine ⟨⟨count, fun h3 => .inr (.inr (.inr ⟨rfl, ?_⟩))⟩, fun hh => ?_⟩
      · have h3 : d.count = 3 := h3
        simp [Config.obstructionLimit, h3]
      · have hh : d.heldFault = true := hh
        simp [held] at hh
    · exact fault
  case locking =>
    unfold Door.lockingStep; split
    · exact Door.bounded_of_le (Nat.zero_le _) held
    · exact fault

/-- Every step of a door keeps its count and its mark in their ranges. -/
theorem Door.bounded_kept : Door.Kept Door.Bounded where
  reset b d := ⟨⟨Nat.zero_le _, fun h => by cases h⟩, fun h => by
    have hb : b = false := by simp only [resetDoor, Bool.and_eq_true, Bool.not_eq_true'] at h; exact h.1
    subst hb
    exact ⟨rfl, rfl⟩⟩
  clear now b d h := by
    have hk : (if d.latch then { d with latch := false, count := 0 } else d).Bounded := by
      split
      · exact ⟨⟨Nat.zero_le _, fun h => by cases h⟩, h.2⟩
      · exact h
    unfold clearDoor
    generalize (if d.latch then { d with latch := false, count := 0 } else d) = x at hk
    dsimp only
    split
    · split
      · exact Door.bounded_of_le (Nat.zero_le _) rfl
      · exact Door.bounded_of_state hk.1.1 (.inr (.inr rfl)) rfl
    all_goals exact hk
  event now e d h := by
    unfold Door.eventStep
    split
    · exact h
    next hs _ => exact h
    next hs _ =>
      have two := h.count_le (by simp [hs]) (by simp [hs]) (by simp [hs]) (by simp [hs])
      exact Door.bounded_of_state (Nat.succ_le_succ two) (.inl rfl) (h.not_held (by simp [hs]))
    · exact h
  periodic v i d h := Door.periodic_bounded v i h
  listening i d h := by
    unfold Door.listening Door.report
    split
    next hs => exact ⟨⟨h.1.1, fun _ => .inr (.inl hs)⟩, fun hh => ⟨hs, by simp_all⟩⟩
    · exact h
  driven now d h _ := h

/-- A full queue takes no event (R169). -/
theorem effectOf_doorQueue {c : Instr} {s : State} (h : s.du.queue.length ≤ 8) : (effectOf c s).du.queue.length ≤ 8 := by
  cases c
  case doorEvent n k =>
    unfold effectOf doorEvent
    dsimp only
    split
    · simpa using h
    next hq =>
      have : Config.doorQueueDepth = 8 := rfl
      simp; omega
  case restart k =>
    unfold effectOf restart; dsimp only; split
    · exact h
    · exact Nat.zero_le _
  case profileLoadComplete m k =>
    unfold effectOf
    obtain ⟨-, e⟩ | ⟨-, -, e⟩ | ⟨-, -, e⟩ := profileLoadComplete_cases m k s <;> dsimp only <;> rw [e]
    · simp [failProfile_eq]
    · simpa using h
    · simp [failProfile_eq]
  case frameReceived k =>
    unfold effectOf
    obtain ⟨li, e, -⟩ | ⟨-, e⟩ | ⟨f, n, x, -, -, -, e⟩ := frameReceived_cases k s <;> dsimp only <;> rw [e]
    · exact h
    · simp
    · simp only [reportPeer_frame]
      obtain ⟨-, -, -, e⟩ | ⟨-, -, -, -, e⟩ := handOn_owners k n x (s.arrivalOf f) s.frameTaken <;> rw [e] <;> exact h
  case cabUpdate i => obtain ⟨-, -, -, e⟩ | ⟨-, -, -, -, e⟩ := cabUpdate_owners i s <;> rw [effectOf, e] <;> exact h
  case doorUpdate | dwellTimeEnd | doorDeadlinePassed =>
    simp only [effectOf, doorUpdate, State.pruneFrozen_frame]
    split
    · simp [doorPeriodic, doorEventSteps_doors]
    · exact Nat.zero_le _
  case driveStopEnd => exact h
  case powerOn | supplyLoss => exact Nat.zero_le _
  all_goals simpa [effectOf] using h

/-! ### The path queue (R60, R67) -/

/-- A lookup's bracket lies in the queue. -/
theorem bracket_length {d : Dist} {q rest : List QueuePoint} {a : QueuePoint} (h : bracket d q = some (a, rest)) :
    rest.length < q.length := by
  induction q with
  | nil => cases h
  | cons p q ih =>
    unfold bracket at h
    split at h
    next found hf =>
      obtain rfl : found = (a, rest) := by simpa using h
      exact Nat.lt_succ_of_lt (ih hf)
    · split at h
      · obtain ⟨-, rfl⟩ : p = a ∧ q = rest := by simpa using h
        simp
      · cases h

theorem trim_length_le (d : Option Dist) (q : List QueuePoint) : (trim d q).length ≤ q.length := by
  unfold trim; split
  · exact le_rfl
  · split
    next h => exact bracket_length h
    · exact le_rfl

@[simp] theorem lagRearm_queue (s : State) :
    (lagRearm s).pu.queue = s.pu.queue ∧ (lagRearm s).pu.queueEpoch = s.pu.queueEpoch := by
  unfold lagRearm; split <;> simp

theorem Profile.queueCapacity_pos (p : Profile) : 1 ≤ p.queueCapacity := by
  unfold Profile.queueCapacity; (repeat' split) <;> decide

/-- A point taken keeps the queue within its capacity (R60). -/
theorem pathIntake_points {s : State} (p : PathPoint) (h : s.pu.queue.length ≤ s.sc.prof.queueCapacity) :
    (pathIntake p s).pu.queue.length ≤ s.sc.prof.queueCapacity := by
  have one := s.sc.prof.queueCapacity_pos
  have only : (takeOnly p s).pu.queue.length ≤ s.sc.prof.queueCapacity := by simpa [takeOnly] using one
  unfold pathIntake
  (repeat' split)
  · exact only
  · exact only
  · exact h
  · simp only [takeNewest, State.raiseIf_frame, lagRearm_queue]
    split
    next hf =>
      have hf := of_decide_eq_true hf
      simp; omega
    next hf =>
      have hf := of_decide_eq_false (Bool.eq_false_iff.mpr hf)
      simp; omega

theorem pathLeadingReport_points {s : State} (n : Fin 8) (r : StatusRec) (h : s.pu.queue.length ≤ s.sc.prof.queueCapacity) :
    (pathLeadingReport n r s).pu.queue.length ≤ s.sc.prof.queueCapacity := by
  unfold pathLeadingReport; split
  · exact Nat.zero_le _
  · exact h

theorem handOn_points {k : LockLevels} {n : Fin 8} {f : Frame} {a : Time} {s : State}
    (h : s.pu.queue.length ≤ s.sc.prof.queueCapacity) : (handOn k n f a s).pu.queue.length ≤ s.sc.prof.queueCapacity := by
  cases f with
  | status r =>
    have hp := pathLeadingReport_points n r (s := stampMotion s.knownSpeeds.isEmpty r a (storeStatus n r a
      (s.raiseIf (s.newlyDisagrees n r) .profileMismatch))) (by simpa using h)
    simpa [handOn, acceptStatus] using hp
  | path p =>
    unfold handOn acceptPath; dsimp only; split
    · exact pathIntake_points p h
    · exact h
  | demand r => simpa [handOn] using h
  | notice ks => simpa [handOn] using h

@[simp] theorem pathOdometerChanged_queue (s : State) : (pathOdometerChanged s).pu.queue = s.pu.queue := by
  unfold pathOdometerChanged layPoint; dsimp only; (repeat' split) <;> simp

@[simp] theorem pathRestart_queue (s : State) : (pathRestart s).pu.queue = s.pu.queue := by
  unfold pathRestart; split <;> simp

@[simp] theorem pathReverse_queue (s : State) : (pathReverse s).pu.queue = s.pu.queue := by
  unfold pathReverse; split <;> simp

@[simp] theorem lagCheck_queue (s : State) : (lagCheck s).pu.queue = s.pu.queue := by
  unfold lagCheck; (repeat' split) <;> simp

@[simp] theorem yawCompletion_queue (c : Channel) (s : State) : (yawCompletion c s).pu.queue = s.pu.queue := by
  unfold yawCompletion PathUnit.integrate; (repeat' split) <;> simp

@[simp] theorem wheelEdge_queue (w : Side) (d : Direction) (s : State) : (wheelEdge w d s).pu.queue = s.pu.queue := by
  unfold wheelEdge leadingEdge followingEdge; dsimp only; (repeat' split) <;> simp

@[simp] theorem conversionComplete_queue (c : BitVec 10) (s : State) : (conversionComplete c s).pu.queue = s.pu.queue := by
  unfold conversionComplete completeConversion; dsimp only; (repeat' split) <;> simp

@[simp] theorem listenWindowEnd_queue (s : State) : (listenWindowEnd s).pu.queue = s.pu.queue := by
  unfold listenWindowEnd pathEnterDriving enterIsolated; dsimp only; (repeat' split) <;> simp

theorem steeringUpdate_points (s : State) : (steeringUpdate s).pu.queue.length ≤ s.pu.queue.length := by
  unfold steeringUpdate; split
  · simpa [steerStep] using trim_length_le _ _
  · exact le_rfl

theorem jointUpdate_points (s : State) : (jointUpdate s).pu.queue.length ≤ s.pu.queue.length := by
  unfold jointUpdate; split
  · dsimp only
    split <;> simpa using trim_length_le _ _
  · exact le_rfl

/-- A path queue within the capacity of the profile in use stays within it (R60, R186). -/
theorem effectOf_points {c : Instr} {s : State} (h : s.pu.queue.length ≤ s.sc.prof.queueCapacity) :
    (effectOf c s).pu.queue.length ≤ (effectOf c s).sc.prof.queueCapacity := by
  obtain hp | ⟨-, hq⟩ := effectOf_prof c s
  case inr => simp [hq]
  rw [hp]
  cases c
  case restart k =>
    unfold effectOf restart; dsimp only; split
    · exact h
    · exact Nat.zero_le _
  case profileLoadComplete m k =>
    unfold effectOf
    obtain ⟨-, e⟩ | ⟨-, -, e⟩ | ⟨-, -, e⟩ := profileLoadComplete_cases m k s <;> dsimp only <;> rw [e] <;>
      simp [failProfile_eq, PathUnit.reset]
  case frameReceived k =>
    unfold effectOf
    obtain ⟨li, e, -⟩ | ⟨-, e⟩ | ⟨f, n, x, -, -, -, e⟩ := frameReceived_cases k s <;> dsimp only <;> rw [e]
    · exact h
    · simp [PathUnit.reset]
    · exact handOn_points (s := s.frameTaken) h
  case steeringUpdate | lockReleaseTimeEnd | centringSettleEnd | trackingTimeEnd => exact (steeringUpdate_points s).trans h
  case jointUpdate | riskClearTimeEnd | damperLowTimeEnd | damperGoodTimeEnd => exact (jointUpdate_points s).trans h
  case powerOn | supplyLoss => exact Nat.zero_le _
  all_goals simpa [effectOf] using h

/-! ### The event summary (R36, R37) -/

/-- The summary is held in increasing code. -/
def State.SummarySorted (s : State) : Prop := s.li.summary.Pairwise fun a b => a.code < b.code

/-- Kinds of one code are one kind (R26). -/
theorem EventKind.code_inj {a b : EventKind} (h : a.code = b.code) : a = b := by
  cases a <;> cases b <;> simp_all [EventKind.code]

theorem insertKind_sorted {k : EventKind} {l : List EventKind} (h : l.Pairwise fun a b => a.code < b.code) :
    (insertKind k l).Pairwise fun a b => a.code < b.code := by
  induction l with
  | nil => simp [insertKind]
  | cons x xs ih =>
    obtain ⟨hx, hxs⟩ := List.pairwise_cons.mp h
    unfold insertKind
    split
    next hk => exact List.pairwise_cons.mpr ⟨fun y hy => by
      obtain rfl | hy := List.mem_cons.mp hy
      · exact hk
      · exact hk.trans (hx y hy), h⟩
    next hk =>
      split
      · exact h
      next hne =>
        have hlt : x.code < k.code := lt_of_le_of_ne (Nat.not_lt.mp hk) fun e => hne (EventKind.code_inj e.symm)
        refine List.pairwise_cons.mpr ⟨fun y hy => ?_, ih hxs⟩
        obtain rfl | hy := (mem_insertKind k y xs).mp hy
        · exact hlt
        · exact hx y hy

section
variable {s t : State}

theorem State.SummarySorted.of_eq (h : s.SummarySorted) (e : t.li.summary = s.li.summary) : t.SummarySorted := by
  unfold State.SummarySorted
  rw [e]
  exact h

theorem State.SummarySorted.raise (h : s.SummarySorted) (k : EventKind) : (s.raise k).SummarySorted :=
  insertKind_sorted h

theorem State.SummarySorted.raiseIf (h : s.SummarySorted) (b : Bool) (k : EventKind) : (s.raiseIf b k).SummarySorted := by
  cases b
  · exact h
  · exact h.raise k

@[simp] theorem pathOdometerChanged_summary (s : State) : (pathOdometerChanged s).li.summary = s.li.summary := by
  unfold pathOdometerChanged layPoint; dsimp only; (repeat' split) <;> simp

@[simp] theorem leadingEdge_summary (d : Direction) (s : State) : (leadingEdge d s).li.summary = s.li.summary := by
  unfold leadingEdge; (repeat' split) <;> simp

theorem lagCheck_sorted (h : s.SummarySorted) : (lagCheck s).SummarySorted := by
  unfold lagCheck; (repeat' split)
  · exact h
  · exact h
  · exact State.SummarySorted.raise (s := { s with pu := _ }) h _
  · exact h

theorem wheelEdge_sorted (w : Side) (d : Direction) (h : s.SummarySorted) : (wheelEdge w d s).SummarySorted := by
  have recorded : (recordEdge w d s).SummarySorted :=
    State.SummarySorted.raiseIf (s := { s with pc := s.pc.setWheel w ((s.pc.wheel w).append ⟨s.now, d⟩) }) h _ _
  unfold wheelEdge; dsimp only; split
  · exact recorded.of_eq (by simp)
  · unfold followingEdge; split
    · refine lagCheck_sorted ?_
      exact recorded
    · exact recorded

theorem yawCompletion_li (c : Channel) (s : State) : (yawCompletion c s).li = s.li := by simp

theorem noteNotice_li (ks : List EventKind) (a : Time) (s : State) : (noteNotice ks a s).li = s.li := by simp

theorem conversionComplete_sorted (c : BitVec 10) (h : s.SummarySorted) : (conversionComplete c s).SummarySorted := by
  unfold conversionComplete; split
  · unfold completeConversion
    dsimp only
    split
    · refine State.SummarySorted.of_eq ?_ (congrArg LineInterface.summary (yawCompletion_li _ _))
      refine State.SummarySorted.raiseIf (State.SummarySorted.raiseIf ?_ _ _) _ _
      exact h
    · refine State.SummarySorted.raiseIf (State.SummarySorted.raiseIf ?_ _ _) _ _
      exact h
  · exact h

theorem pathIntake_sorted (p : PathPoint) (h : s.SummarySorted) : (pathIntake p s).SummarySorted := by
  unfold pathIntake; (repeat' split)
  · exact h.of_eq (by simp)
  · exact h.of_eq (by simp)
  · exact h
  · exact State.SummarySorted.raiseIf (h.of_eq (by simp)) _ _

theorem handOn_sorted {k : LockLevels} {n : Fin 8} {f : Frame} {a : Time} (h : s.SummarySorted) :
    (handOn k n f a s).SummarySorted := by
  cases f with
  | status r => exact (h.raiseIf _ .profileMismatch).of_eq (by simp [handOn, acceptStatus]; rfl)
  | path p =>
    unfold handOn acceptPath; dsimp only; split
    · exact pathIntake_sorted p h
    · exact h
  | demand r => exact h.of_eq (by simp [handOn])
  | notice ks => exact h.of_eq (by simp [handOn])

theorem frameReceived_sorted (k : LockLevels) (h : s.SummarySorted) : (frameReceived k s).SummarySorted := by
  obtain ⟨li, e, hli⟩ | ⟨-, e⟩ | ⟨f, n, x, -, -, -, e⟩ := frameReceived_cases k s <;> rw [e]
  · obtain hli | ⟨x, hli⟩ := hli
    · exact h.of_eq hli
    · exact (h.raise x).of_eq hli
  · exact (h.raise .duplicateStation).of_eq (by simp [State.duplicateFound, State.frameTaken])
  · exact handOn_sorted (s := s.frameTaken) h

theorem frameBegin_sorted (k : FrameKind) (h : s.SummarySorted) : (frameBegin k s).SummarySorted := by
  unfold frameBegin; split
  · unfold afterLaunch; split
    · exact h
    · exact h
    · refine State.SummarySorted.of_eq ?_ (congrArg LineInterface.summary (noteNotice_li _ _ _))
      exact List.Pairwise.nil
    · exact h
  · exact h

theorem trackingCheck_sorted (h : s.SummarySorted) : (trackingCheck s).SummarySorted := by
  unfold trackingCheck; (repeat' split)
  · exact State.SummarySorted.raise (s := { s with su := _ }) h _
  · exact h
  · exact h

theorem steeringUpdate_sorted (h : s.SummarySorted) : (steeringUpdate s).SummarySorted := by
  unfold steeringUpdate; split
  · exact (trackingCheck_sorted h).of_eq (by simp)
  · exact h

theorem jointUpdate_sorted (h : s.SummarySorted) : (jointUpdate s).SummarySorted := by
  unfold jointUpdate; split
  next r _ =>
    have stepped : (jointStep r s).SummarySorted := by
      refine State.SummarySorted.raiseIf (State.SummarySorted.raiseIf ?_ _ _) _ _
      exact h
    dsimp only; split
    · exact stepped.of_eq (by simp)
    · exact h.of_eq (by simp)
  · exact h

theorem brakeUpdate_sorted (h : s.SummarySorted) : (brakeUpdate s).SummarySorted := by
  unfold brakeUpdate; split
  · dsimp only; split
    · refine State.SummarySorted.of_eq (State.SummarySorted.raiseIf (State.SummarySorted.raiseIf ?_ _ _) _ _) rfl
      exact h
    · exact h
  · exact h

theorem cabUpdate_summary (i : CabInputs) (s : State) : (cabUpdate i s).li.summary = s.li.summary := by
  cases hd : s.drives with
  | true => rw [cabUpdate_li hd]
  | false => simp [cabUpdate, hd]

theorem holdUpdate_sorted (h : s.SummarySorted) : (holdUpdate s).SummarySorted := by
  refine State.SummarySorted.of_eq (State.SummarySorted.raiseIf ?_ s.applyFails .holdFault) rfl
  exact h

theorem skirtContact_sorted (h : s.SummarySorted) : (skirtContact s).SummarySorted :=
  State.SummarySorted.raise (s := s.setLevel _) h _

theorem levelStep_sorted (skirt acted : Bool) (h : s.SummarySorted) : (levelStep skirt acted s).SummarySorted := by
  refine State.SummarySorted.of_eq (State.SummarySorted.raiseIf ?_ (s.cornerTimesOut skirt acted) .levelTimeout) rfl
  exact h

theorem levelUpdate_sorted (skirt : Bool) (h : s.SummarySorted) : (levelUpdate skirt s).SummarySorted := by
  unfold levelUpdate; split
  · exact levelStep_sorted _ _ (skirtContact_sorted h)
  · exact levelStep_sorted _ _ h

theorem doorEventSteps_sorted (h : s.SummarySorted) : (doorEventSteps s).SummarySorted := by
  have fold (q : List DoorEvent) : ∀ t : State, t.SummarySorted → (q.foldl takeDoorEvent t).SummarySorted := by
    induction q with
    | nil => exact fun t ht => ht
    | cons e q ih =>
      intro t ht
      refine ih _ (State.SummarySorted.raiseIf ?_ _ _)
      exact ht
  exact fold _ _ h

theorem doorUpdate_sorted (a b : DoorInputs) (h : s.SummarySorted) : (doorUpdate a b s).SummarySorted := by
  unfold doorUpdate; dsimp only; split
  · have stepped := doorEventSteps_sorted h
    refine State.SummarySorted.of_eq
      (State.SummarySorted.raiseIf (State.SummarySorted.raiseIf (State.SummarySorted.raiseIf ?_ _ _) _ _) _ _) rfl
    exact stepped
  · exact h

theorem profileLoadComplete_sorted (m : List Byte) (k : LockLevels) (h : s.SummarySorted) :
    (profileLoadComplete m k s).SummarySorted := by
  have used : (useImage m s).SummarySorted := State.SummarySorted.raiseIf (s := useProfile _ (storeImage m s)) h _ _
  obtain ⟨-, e⟩ | ⟨-, -, e⟩ | ⟨-, -, e⟩ := profileLoadComplete_cases m k s <;> rw [e]
  · exact h.of_eq (by simp [failProfile_eq, State.startIdleWait])
  · exact used.of_eq (by simp)
  · exact used.of_eq (by simp [failProfile_eq, State.startIdleWait])

theorem leavePowerup_summary (s : State) : (leavePowerup s).li.summary = s.li.summary := by
  obtain e | e := leavePowerup_cases s <;> rw [e]
  simp

theorem restartInputHigh_sorted (h : s.SummarySorted) : (restartInputHigh s).SummarySorted := by
  obtain e | ⟨-, e⟩ | ⟨-, e⟩ := restartInputHigh_cases s <;> rw [e]
  · exact h
  · exact h.of_eq (leavePowerup_summary _)
  · unfold inertInputHigh; dsimp only; split
    · exact (h.raise .duplicateStation).of_eq (by simp [State.startIdleWait])
    · exact h

theorem listenWindowEnd_sorted (h : s.SummarySorted) : (listenWindowEnd s).SummarySorted := by
  unfold listenWindowEnd; dsimp only; split
  · exact h.of_eq (by simp)
  · exact (h.raise .linkLoss).of_eq (by simp [enterIsolated])

end

theorem characterReceived_summary (c : Byte) (i : CharacterInstant) (s : State) :
    (characterReceived c i s).li.summary = s.li.summary := by
  unfold characterReceived
  split
  · cases i <;> dsimp only
    case startBit => unfold startBit; (repeat' split) <;> rfl
    case stopBit good =>
      unfold characterTaken badChar outsideChar insideChar
      dsimp only
      (repeat' split) <;> rfl
    case lineIdle => unfold lineIdle; dsimp only; (repeat' split) <;> rfl
  · unfold State.lineSeen; (repeat' split) <;> rfl

theorem effectOf_sorted {c : Instr} {s : State} (h : s.SummarySorted) : (effectOf c s).SummarySorted := by
  cases c
  case powerOn | supplyLoss => exact List.Pairwise.nil
  case restart k =>
    unfold effectOf restart; dsimp only; split <;> exact List.Pairwise.nil
  case supplySettled =>
    unfold effectOf
    obtain e | e := supplySettled_cases s <;> dsimp only <;> rw [e]
    · exact h
    · exact h.of_eq (leavePowerup_summary _)
  case restartInputHigh => exact restartInputHigh_sorted h
  case profileLoadComplete m k => exact profileLoadComplete_sorted m k h
  case wheelEdge w d => exact wheelEdge_sorted w d h
  case conversionComplete c => exact conversionComplete_sorted c h
  case frameReceived k => exact frameReceived_sorted k h
  case frameBegin k => exact frameBegin_sorted k h
  case statusExpiry n =>
    refine State.SummarySorted.raiseIf ?_ _ _
    exact h
  case staleEpisodeBegin => exact State.SummarySorted.raise (s := { s with pv := _ }) h _
  case steeringUpdate | lockReleaseTimeEnd | centringSettleEnd | trackingTimeEnd => exact steeringUpdate_sorted h
  case jointUpdate | riskClearTimeEnd | damperLowTimeEnd | damperGoodTimeEnd => exact jointUpdate_sorted h
  case brakeUpdate => exact brakeUpdate_sorted h
  case cabUpdate i => exact h.of_eq (cabUpdate_summary i s)
  case holdUpdate | confirmTimeEnd | applyFaultTimeEnd | releaseTimeEnd => exact holdUpdate_sorted h
  case levelUpdate | pulseLimitEnd | settleTimeEnd => exact levelUpdate_sorted _ h
  case skirtContact => exact skirtContact_sorted h
  case doorEvent n k =>
    unfold effectOf doorEvent; dsimp only; split
    · exact h.raise _
    · exact h
  case doorUpdate a b | dwellTimeEnd a b | doorDeadlinePassed a b => exact doorUpdate_sorted _ _ h
  case listenWindowEnd => exact listenWindowEnd_sorted h
  case peerSilenceTimeout => exact State.SummarySorted.raise (s := { s with sc := _ }) h _
  case characterReceived c i => exact h.of_eq (characterReceived_summary c i s)
  case idleWaitComplete =>
    unfold effectOf idleWaitComplete; dsimp only; split <;> exact h
  case noticeInterval =>
    unfold effectOf noticeInterval; dsimp only; split <;> exact h
  case scanStart | speedUpdate | zeroSpeedTimeout | frameGapTimeout | transmitComplete | statusRequest | demandExpiry |
    lampTestEnd | closureComplete | driveStopEnd => exact h

/-! ### The invariant -/

/-- The ranges of every unit, each said of its unit alone. -/
structure State.UnitsBounded (s : State) : Prop where
  pulses : s.pc.Bounded
  scan : s.cs.Bounded
  doorEvents : s.du.queue.length ≤ 8
  points : s.pu.queue.length ≤ s.sc.prof.queueCapacity
  level : s.lu.Bounded
  doors : ∀ d ∈ s.du.doors, d.Bounded
  summary : s.SummarySorted
  profile : s.sc.prof.Limited
  steering : s.su.Bounded
  joint : s.ju.Bounded
  brake : s.bu.Bounded

theorem State.bounded_iff (s : State) : s.Bounded ↔ s.UnitsBounded := by
  constructor
  · intro h
    exact {
      pulses := ⟨⟨h.leftEdges, h.leftSpeed⟩, ⟨h.rightEdges, h.rightSpeed⟩, h.axleSpeed⟩
      scan := ⟨h.trial, h.channels⟩
      doorEvents := h.doorEvents
      points := h.points
      level := ⟨⟨h.leftHistory, h.leftProgress⟩, h.rightHistory, h.rightProgress⟩
      doors := fun d hd => ⟨h.obstructions d hd, h.heldDoors d hd⟩
      summary := h.summary
      profile := ⟨h.fullLimit, h.pressureLimit, h.dampingFloor⟩
      steering := ⟨h.command, h.setPoint⟩
      joint := ⟨h.damping, h.output⟩
      brake := ⟨⟨h.leftHoldGood, h.leftTarget, h.leftSetPoint⟩, ⟨h.rightHoldGood, h.rightTarget, h.rightSetPoint⟩, h.demand⟩ }
  · intro h
    exact {
      leftEdges := h.pulses.left.1
      rightEdges := h.pulses.right.1
      leftSpeed := h.pulses.left.2
      rightSpeed := h.pulses.right.2
      axleSpeed := h.pulses.axleSpeed
      trial := h.scan.trial
      doorEvents := h.doorEvents
      points := h.points
      leftHistory := h.level.1.1
      rightHistory := h.level.2.1
      leftProgress := h.level.1.2
      rightProgress := h.level.2.2
      obstructions := fun d hd => (h.doors d hd).1
      heldDoors := fun d hd => (h.doors d hd).2
      summary := h.summary
      channels := h.scan.channels
      fullLimit := h.profile.fullLimit
      pressureLimit := h.profile.pressureLimit
      dampingFloor := h.profile.dampingFloor
      command := h.steering.1
      setPoint := h.steering.2
      damping := h.joint.1
      output := h.joint.2
      leftHoldGood := h.brake.left.holdGood
      rightHoldGood := h.brake.right.holdGood
      leftTarget := h.brake.left.target
      rightTarget := h.brake.right.target
      leftSetPoint := h.brake.left.setPoint
      rightSetPoint := h.brake.right.setPoint
      demand := h.brake.demand }

theorem powerOn_unitsBounded (n : Fin 8) (b : Bool) (k : LockLevels) (s : State) : (powerOn n b k s).UnitsBounded where
  pulses := PulseCapture.reset_bounded
  scan := Scan.reset_bounded
  doorEvents := Nat.zero_le _
  points := Nat.zero_le _
  level := LevelUnit.reset_bounded ..
  doors := fun d hd => by cases hd
  summary := List.Pairwise.nil
  profile := Profile.unloaded_limited
  steering := ⟨Nat.zero_le _, Nat.zero_le _⟩
  joint := ⟨le_rfl, le_rfl⟩
  brake := BrakeUnit.reset_bounded

theorem State.UnitsBounded.elapse {s : State} (dt : Nat) (h : s.UnitsBounded) : (s.elapse dt).UnitsBounded := by
  constructor <;> simp only [State.SummarySorted, State.elapse_frame]
  exacts [h.pulses, h.scan, h.doorEvents, h.points, h.level, h.doors, h.summary, h.profile, h.steering, h.joint, h.brake]

theorem effectOf_unitsBounded {c : Instr} {s : State} (h : s.UnitsBounded) : (effectOf c s).UnitsBounded where
  pulses := effectOf_pc_bounded h.pulses
  scan := effectOf_cs_bounded h.scan
  doorEvents := effectOf_doorQueue h.doorEvents
  points := effectOf_points h.points
  level := effectOf_lu_bounded h.level
  doors := forall_doors_effectOf Door.bounded_kept h.doors
  summary := effectOf_sorted h.summary
  profile := (effectOf_prof c s).elim (fun e => e ▸ h.profile) And.left
  steering := effectOf_su_bounded h.profile h.steering
  joint := effectOf_ju_bounded h.profile h.joint
  brake := effectOf_bu_bounded h.profile h.brake

/-- Settles O58: unit by unit, each operation that writes a bounded item keeps it in its range. -/
theorem boundsKept : Obligations.BoundsKept := by
  intro s t hs h
  rw [State.bounded_iff] at hs ⊢
  exact step_keeps (P := State.UnitsBounded)
    (fun _ _ h => ⟨h.pulses, h.scan, h.doorEvents, h.points, h.level, h.doors, h.summary, h.profile, h.steering, h.joint, h.brake⟩)
    powerOn_unitsBounded (fun dt _ h => h.elapse dt) (fun _ _ h _ => effectOf_unitsBounded h) hs h

/-- Settles O56: the state after reset is one that POWER_ON gives. -/
theorem invariantsAtReset : Obligations.InvariantsAtReset := by
  have reset : powerOn 0 true ⟨false, false⟩ State.reset = State.reset := rfl
  refine ⟨⟨rfl, fun _ => ⟨rfl, rfl⟩, Corner.valvesFollow_of_closed rfl rfl, Corner.valvesFollow_of_closed rfl rfl,
      fun d hd => (by cases hd), rfl, rfl⟩,
    (State.bounded_iff _).mpr (reset ▸ powerOn_unitsBounded 0 true ⟨false, false⟩ State.reset),
    State.kneelHolds_of_reset rfl rfl rfl, fun _ => ?rest⟩
  case rest =>
    exact State.atRest_of_reset (s := State.reset) rfl rfl rfl rfl ⟨rfl, rfl, rfl, rfl⟩ (fun d hd => (by cases hd))
      ⟨rfl, rfl, rfl, rfl, rfl, rfl⟩

end Sys2Proof.Machine
end

section
/-! PROOF. Rules of the whole machine: how INERT is left, how LOCKED and the kneel phase NONE are left, how a door leaves LOCKED, and
what clears a latch (R51, R73, R158, R171, R177, R182, R191). -/

namespace Sys2Proof.Machine

/-! ### INERT (R191) -/

/-- A command that steps no schedule's unit but in a running station leaves INERT as it is. -/
theorem effectOf_inert {c : Instr} {s : State} (hc : isSupply c = false) (hi : s.sc.station = .inert)
    (hr : readyOf c s = true) : (effectOf c s).sc.station = .inert := by
  have stopped : s.runs = false := by simp [State.runs, hi, StationState.runs]
  cases c
  case powerOn | supplyLoss => cases hc
  case restart => simp [effectOf, restart, hi, restartInert]
  case supplySettled => simp [readyOf, State.settles, hi] at hr
  case profileLoadComplete => simp [readyOf, State.loading, hi] at hr
  case listenWindowEnd => simp [readyOf, State.windowOver, hi] at hr
  case peerSilenceTimeout => simp [readyOf, State.peersSilent, hi] at hr
  case restartInputHigh =>
    unfold effectOf
    obtain e | ⟨hp, -⟩ | ⟨-, e⟩ := restartInputHigh_cases s
    · dsimp only; rw [e]; exact hi
    · rw [hi] at hp; cases hp
    · dsimp only; rw [e]; simpa using hi
  case frameReceived k =>
    unfold effectOf
    obtain ⟨li, e, -⟩ | ⟨hl, -⟩ | ⟨f, n, x, -, hs, -⟩ := frameReceived_cases k s
    · dsimp only; rw [e]; exact hi
    · rw [hi] at hl; cases hl
    · rw [stopped] at hs; cases hs
  all_goals simpa [effectOf] using hi

/-- Settles O51: the commands that change the station state are not taken in INERT, but for a restart, which keeps it there. -/
theorem inertStays : Obligations.InertStays := by
  intro c s t h hi hc
  obtain ⟨n, b, l, rfl, -⟩ | rfl | ⟨-, hr, rfl⟩ := exec_cases h
  · cases hc
  · simpa using hi
  · exact effectOf_inert hc (by simpa using hi) hr

/-! ### LOCKED (R73, R74) -/

/-- The commands whose effect is a steering update (log entry 2). -/
def updatesSteering : Instr → Bool
  | .steeringUpdate _ | .lockReleaseTimeEnd _ | .centringSettleEnd _ | .trackingTimeEnd _ => true
  | _ => false

/-- A command that makes a steering update makes one that is due. -/
theorem effectOf_updatesSteering {c : Instr} {s : State} (hc : updatesSteering c = true) (hr : readyOf c s = true) :
    s.steeringDue = true ∧ effectOf c s = steeringUpdate s := by
  cases c <;> cases hc
  case steeringUpdate => exact ⟨hr, rfl⟩
  all_goals
    simp only [readyOf, State.lockReleaseDue, State.centringSettleDue, State.trackingDue, Bool.and_eq_true] at hr
    exact ⟨by simp only [hr], rfl⟩

/-- In LOCKED no tracking check is made: its start is cleared (R89). -/
theorem trackingCheck_locked {s : State} (h : s.su.state = .locked) :
    trackingCheck s = { s with su := { s.su with trackStart := none } } := by
  simp [trackingCheck, State.offTrack, h, SteerState.tracked]

/-- The tracking start enters neither the conditions nor the lookup's position (R63, R73). -/
theorem followConditions_trackStart (s : State) (t : Option Time) (r : AxleRec) :
    State.followConditions { s with su := { s.su with trackStart := t } } r = s.followConditions r := rfl

/-- The eight follow conditions, one by one (R73). -/
theorem State.followConditions_iff (s : State) (r : AxleRec) :
    s.followConditions r = true ↔
      s.sc.station = .active ∧
      (∃ n rec, s.sc.prof.leading = some n ∧ s.freshStatus n = some rec ∧ rec.station.drives = true) ∧
      s.leadingDirection = some .forward ∧ (∀ j ∈ s.sc.prof.jointsOf r, (s.jointAngle j.1).isSome = true) ∧
      s.profileAgreement = true ∧ s.su.latch = false ∧ (s.channel 6).reading.isSome = true ∧ s.pu.lagStands = false ∧
      ∃ v, s.refSpeed = some v ∧ v < s.sc.prof.v2 := by
  have leader : s.leaderForward = true ↔
      (∃ n rec, s.sc.prof.leading = some n ∧ s.freshStatus n = some rec ∧ rec.station.drives = true) ∧
        s.leadingDirection = some .forward := by
    unfold State.leaderForward
    cases hl : s.sc.prof.leading with
    | none => simp
    | some n => cases hf : s.freshStatus n <;> simp [hf]
  have below : s.belowV2 = true ↔ ∃ v, s.refSpeed = some v ∧ v < s.sc.prof.v2 := by
    unfold State.belowV2
    cases s.refSpeed <;> simp
  simp only [State.followConditions, Bool.and_eq_true, decide_eq_true_eq, leader, below, State.anglesKnown, List.all_eq_true,
    Bool.not_eq_true', and_assoc]

/-- A steering update from LOCKED unlocks exactly with the follow conditions and a path value (R74). -/
theorem steeringUpdate_locked {s : State} {r : AxleRec} (ho : s.own.axle? = some r) (h : s.su.state = .locked) :
    (steeringUpdate s).su =
      match s.followConditions r, lookupAt (s.axlePosition r) s.pu.queue with
      | true, .value _ => { s.su with
          state := .lockRelease, command := 0, setPoint := 0, lockValve := true, releaseStart := some s.now, trackStart := none }
      | _, _ => { s.su with command := 0, setPoint := 0, lockValve := false, trackStart := none } := by
  rw [steeringUpdate_su ho, trackingCheck_locked h, followConditions_trackStart]
  show ((State.steerTransition _ _ _ (lookupAt (s.axlePosition r) s.pu.queue)).drive) = _
  have hst : ({ s with su := { s.su with trackStart := none } } : State).su.state = .locked := h
  unfold State.steerTransition
  rw [hst]
  cases s.followConditions r <;> cases lookupAt (s.axlePosition r) s.pu.queue <;> simp [SteeringUnit.drive, h]

/-- What leaves LOCKED outside a steering update is an entry to LISTENING at the leading axle (R70). -/
theorem effectOf_leaves_locked {c : Instr} {s : State} (hc : updatesSteering c = false) (h : s.su.state = .locked)
    (ht : (effectOf c s).su.state ≠ .locked) :
    (effectOf c s).su.state = .leading ∧ (effectOf c s).own.isLeading = true := by
  cases hw : stepsOwner c with
  | false =>
    have m := effectOf_ownerMove (s := s) hw
    generalize (effectOf c s).su = su, (effectOf c s).hu = hu, (effectOf c s).lu = lu at m ht ⊢
    cases m
    case kept | cleared => exact absurd h ht
    case listening leads _ hl | profiled leads _ _ hl =>
      cases leads
      · exact absurd h ht
      · exact ⟨rfl, hl rfl⟩
    case inert | restarted | unpowered => exact absurd rfl ht
  | true =>
    refine absurd ?_ ht
    cases c
    case steeringUpdate | lockReleaseTimeEnd | centringSettleEnd | trackingTimeEnd => cases hc
    case wheelEdge w d =>
      unfold effectOf
      obtain e | ⟨d1, e⟩ := wheelEdge_su w d s <;> dsimp only <;> rw [e] <;> exact h
    case holdUpdate | confirmTimeEnd | applyFaultTimeEnd | releaseTimeEnd | levelUpdate | pulseLimitEnd | settleTimeEnd |
      skirtContact | closureComplete => simpa [effectOf] using h
    all_goals cases hw

/-- Settles O29: the transition out of LOCKED is that of a due steering update under the follow conditions. -/
theorem steerLeavesLockedOnly : Obligations.SteerLeavesLockedOnly := by
  intro c s t h hs ht
  obtain ⟨n, b, l, -, rfl⟩ | rfl | ⟨-, hr, rfl⟩ := exec_cases h
  · exact absurd rfl ht
  · exact absurd (by simpa using hs) ht
  have hu : (s.elapse (elapsedOf c)).su.state = .locked := by simpa using hs
  cases hc : updatesSteering c with
  | false => exact .inl (effectOf_leaves_locked hc hu ht)
  | true =>
    obtain ⟨hdue, e⟩ := effectOf_updatesSteering hc hr
    rw [e] at ht ⊢
    obtain ⟨r, ho⟩ : ∃ r, (s.elapse (elapsedOf c)).own.axle? = some r := by
      simp only [State.steeringDue, Bool.and_eq_true] at hdue
      obtain ⟨⟨-, hf⟩, -⟩ := hdue
      revert hf
      cases (s.elapse (elapsedOf c)).own <;> simp [StationRec.isFollowing, StationRec.axle?]
    rw [steeringUpdate_locked ho hu] at ht ⊢
    split at ht
    next x hcond hx =>
      obtain ⟨hact, hlead, hdir, hang, hagree, hlatch, hangle, hlag, v, hv, hlt⟩ := (State.followConditions_iff _ _).mp hcond
      simp only [State.elapse_frame, State.elapse_own, State.elapse_channel] at *
      exact .inr ⟨trivial, r, v, ho, hdue, hact, hlead, hdir, hang, hagree, hlatch, hangle, hlag, hv, hlt, x, hx⟩
    · exact absurd hu ht

end Sys2Proof.Machine
end

section
/-! PROOF. How a kneel begins, how a door leaves LOCKED, and what clears a latch (R51, R158, R171, R177, R182). -/

namespace Sys2Proof.Machine

/-! ### The kneel phase (R158, R161) -/

/-- An abort that settles leaves no kneel phase lowered that was not. -/
theorem LevelUnit.settleAbort_lowered {l : LevelUnit} (r : Nat) (h : (l.settleAbort r).kneel.lowered = true) :
    l.kneel.lowered = true := by
  unfold LevelUnit.settleAbort at h
  split at h
  · cases h
  · exact h

/-- The step of the kneel phase lowers it from NONE or RAISING by beginning a kneel alone (R158). -/
theorem State.kneelStep_begins {s : State} {skirt acted : Bool} (h : s.lu.kneel.lowered = false)
    (ht : (s.kneelStep skirt acted).1.lowered = true) :
    s.drives = true ∧ s.kneelBegins skirt = true ∧
      s.kneelStep skirt acted = (.kneeling, s.effectiveDemand.kneel) := by
  have hk : s.latchedLevel.kneel = s.lu.kneel := rfl
  by_cases hc : (!s.drives || s.latchedLevel.abort || acted) = true
  · rw [State.kneelStep, if_pos hc, hk, h] at ht
    cases ht
  · have hd : s.drives = true := by
      simp only [Bool.or_eq_true, Bool.not_eq_true', not_or, Bool.not_eq_false] at hc
      exact hc.1.1
    rw [State.kneelStep, if_neg hc, hk] at ht ⊢
    cases hs : s.lu.kneel <;> simp only [hs] at ht h ⊢
    case kneeling | knelt => cases h
    case none =>
      cases hb : s.kneelBegins skirt with
      | true => exact ⟨hd, rfl, rfl⟩
      | false => simp [hb, KneelPhase.lowered] at ht
    case raising =>
      cases hb : s.kneelBegins skirt with
      | true => exact ⟨hd, rfl, rfl⟩
      | false =>
        simp only [hb, Bool.false_eq_true, if_false] at ht
        split at ht <;> cases ht

/-- A level update's kneel phase is that of its kneel step, or RAISING, with the sides of the step. -/
theorem State.levelAfter_kneel (s : State) (skirt acted : Bool) :
    (s.levelAfter skirt acted).kneel = .raising ∨
      (s.levelAfter skirt acted).kneel = (s.kneelStep skirt acted).1 ∧
      (s.levelAfter skirt acted).sides = (s.kneelStep skirt acted).2 := by
  simp only [State.levelAfter, LevelUnit.finish, LevelUnit.stepCorners]
  split
  · exact .inl rfl
  · exact .inr ⟨rfl, rfl⟩

/-- The conditions under which a kneel begins (R158). -/
theorem State.kneelBegins_iff (s : State) (skirt : Bool) : s.kneelBegins skirt = true ↔
    s.effectiveDemand.kneel ≠ .none ∧ s.hu.state.isHeld = true ∧ s.standstill = true ∧ s.lu.kneelLatch = false ∧
      s.lu.abort = false ∧ skirt = false ∧ s.lu.left.phase ≠ .fault ∧ s.lu.right.phase ≠ .fault := by
  by_cases h : s.effectiveDemand.kneel = .none
  · simp [State.kneelBegins, h]
  · simp [State.kneelBegins, State.latchedLevel, h, and_assoc]

/-- The commands whose effect is a level update (log entry 2). -/
def updatesLevel : Instr → Bool
  | .levelUpdate .. | .pulseLimitEnd .. | .settleTimeEnd .. => true
  | _ => false

/-- A command that makes a level update makes one that is due, with the skirt contact it reads. -/
theorem effectOf_updatesLevel {c : Instr} {s : State} (hc : updatesLevel c = true) (hr : readyOf c s = true) :
    ∃ dt x b, (c = .levelUpdate dt b ∨ c = .pulseLimitEnd dt x b ∨ c = .settleTimeEnd dt x b) ∧
      s.levelDue = true ∧ effectOf c s = levelUpdate b s := by
  cases c <;> cases hc
  case levelUpdate dt b => exact ⟨dt, .left, b, .inl rfl, hr, rfl⟩
  case pulseLimitEnd dt x b =>
    simp only [readyOf, State.pulseLimitDue, Bool.and_eq_true] at hr
    exact ⟨dt, x, b, .inr (.inl rfl), hr.1.1, rfl⟩
  case settleTimeEnd dt x b =>
    simp only [readyOf, State.settleDue, Bool.and_eq_true] at hr
    exact ⟨dt, x, b, .inr (.inr rfl), hr.1.1, rfl⟩

/-- No command but a level update lowers the kneel phase. -/
theorem effectOf_lowered {c : Instr} {s : State} (hc : updatesLevel c = false) (hr : readyOf c s = true)
    (h : (effectOf c s).lu.kneel.lowered = true) : s.lu.kneel.lowered = true := by
  cases hw : stepsOwner c with
  | false =>
    have m := effectOf_ownerMove (s := s) hw
    generalize (effectOf c s).su = su, (effectOf c s).hu = hu, (effectOf c s).lu = lu at m h
    cases m
    case kept | cleared | listening | profiled => exact h
    case inert | restarted | unpowered => cases h
  | true =>
    cases c
    case levelUpdate | pulseLimitEnd | settleTimeEnd => cases hc
    case skirtContact =>
      simp only [readyOf, State.skirtDue, State.skirtListens, Bool.and_eq_true] at hr
      exact hr.2.1
    case closureComplete dt x =>
      have settled := LevelUnit.settleAbort_lowered _ (by simpa [effectOf, closureComplete] using h)
      cases x <;> exact settled
    case wheelEdge | steeringUpdate | lockReleaseTimeEnd | centringSettleEnd | trackingTimeEnd | holdUpdate | confirmTimeEnd |
      applyFaultTimeEnd | releaseTimeEnd => simpa [effectOf] using h
    all_goals cases hw

/-- Settles O42: of the level updates, only the step of the kneel phase lowers it, and it does so by beginning a kneel. -/
theorem kneelBeginsOnly : Obligations.KneelBeginsOnly := by
  intro c s t h hs ht
  obtain ⟨n, b, l, -, rfl⟩ | rfl | ⟨-, hr, rfl⟩ := exec_cases h
  · cases ht
  · simp [hs] at ht
  cases hc : updatesLevel c with
  | false => exact absurd (effectOf_lowered hc hr ht) (by simp [hs])
  | true =>
    obtain ⟨dt, x, skirt, hcmd, hdue, e⟩ := effectOf_updatesLevel hc hr
    rw [e] at ht ⊢
    have hk : (s.elapse (elapsedOf c)).lu.kneel.lowered = false := by simpa using hs
    have listens : (s.elapse (elapsedOf c)).skirtListens = false := by simp [State.skirtListens, hs]
    simp only [levelUpdate, listens, Bool.and_false, Bool.false_eq_true, if_false, levelStep_lu] at ht ⊢
    obtain e1 | ⟨e1, e2⟩ := State.levelAfter_kneel (s.elapse (elapsedOf c)) skirt false
    · rw [e1] at ht; cases ht
    · rw [e1] at ht
      obtain ⟨hd, hb, e3⟩ := State.kneelStep_begins hk ht
      obtain ⟨hdem, hheld, hstill, hlatch, habort, hskirt, hl, hrt⟩ := (State.kneelBegins_iff _ _).mp hb
      rw [e1, e2, e3]
      simp only [State.elapse_frame, State.elapse_drives] at *
      exact ⟨⟨dt, x, hskirt ▸ hcmd⟩, hdue, hd, hdem, hheld, hstill, hlatch, habort, hl, hrt, trivial, trivial⟩

/-! ### What a command does to each door -/

theorem reportPeer_du (a : Time) (s : State) : (reportPeer a s).du = s.du := by simp

/-- A clear event leaves a door that is not in FAULT but for its latch and count (R180). -/
theorem clearDoor_of_not_fault {now : Time} {b : Bool} {d : Door} (h : d.state ≠ .fault) :
    clearDoor now b d = if d.latch then { d with latch := false, count := 0 } else d := by
  have hs : (if d.latch then { d with latch := false, count := 0 } else d).state = d.state := by split <;> rfl
  unfold clearDoor
  dsimp only
  split
  next hf => exact absurd (hs ▸ hf) h
  all_goals rfl

section
variable {R : Door → Door → Prop}

theorem forall₂_withLocks {f : Bool → Door → Door} {k : LockLevels} {l : List Door} (h : ∀ b d, R d (f b d)) :
    List.Forall₂ R l (withLocks f k l) := by
  match l with
  | [] => exact .nil
  | [d] => exact .cons (h _ _) .nil
  | d :: e :: rest =>
    exact .cons (h _ _) (.cons (h _ _) (List.forall₂_map_right_iff.mpr (List.forall₂_same.mpr fun x _ => h _ x)))

theorem forall₂_withInputs {f : Door → DoorInputs → Door} {a b : DoorInputs} {l : List Door} (h : ∀ d i, R d (f d i))
    (hr : ∀ d, R d d) : List.Forall₂ R l (withInputs f a b l) := by
  match l with
  | [] => exact .nil
  | [d] => exact .cons (h _ _) .nil
  | d :: e :: rest => exact .cons (h _ _) (.cons (h _ _) (List.forall₂_same.mpr fun x _ => hr x))

end

/-- The door after every entry of the queue has been taken (R170). -/
def Door.takeAll (now : Time) (q : List DoorEvent) (d : Door) : Door := q.foldl (fun d e => d.take now e) d

/-- What a command that takes `s` to `t` does to one door, the profile load and the supply's own commands apart (R51, R170, R177,
R182). -/
inductive State.DoorMove (c : Instr) (s t : State) : Door → Door → Prop
  | kept (d) : s.DoorMove c t d d
  | restarted (b d) (h : ∃ dt n l, c = .restart dt n l) : s.DoorMove c t d (resetDoor b d)
  | inert (b d) (hs : s.sc.station = .listening) (ht : t.sc.station = .inert) : s.DoorMove c t d (resetDoor b d)
  | cleared (now b d) (acts : s.ActsClear t) : s.DoorMove c t d (clearDoor now b d)
  | driven (d) (h : d.stopOver s.now = true) : s.DoorMove c t d d.driveOpen
  | taken (d) : s.DoorMove c t d (d.takeAll s.now s.du.queue)
  | stepped (d i) (due : s.doorDue = true) (drives : s.drives = true) :
      s.DoorMove c t d ((d.takeAll s.now s.du.queue).periodic s.doorView i)
  | listened (d i) : s.DoorMove c t d (d.listening i)

theorem doorUpdate_doorMove {c : Instr} {s t : State} (a b : DoorInputs) (due : s.doorDue = true) :
    List.Forall₂ (s.DoorMove c t) s.du.doors (doorUpdate a b s).du.doors := by
  simp only [doorUpdate, State.pruneFrozen_frame]
  split
  next hd =>
    simp only [doorPeriodic, State.raiseIf_frame, doorEventSteps_doors]
    have stepped : List.Forall₂ (fun d e => ∀ x, x.takeAll s.now s.du.queue = d → s.DoorMove c t x e)
        (s.du.doors.map (Door.takeAll s.now s.du.queue))
        (withInputs (fun d i => d.periodic s.doorView i) a b (s.du.doors.map (Door.takeAll s.now s.du.queue))) :=
      forall₂_withInputs (fun d i x hx => hx ▸ .stepped x i due hd) fun d x hx => hx ▸ .taken x
    exact (List.forall₂_map_left_iff.mp stepped).imp fun x e h => h x rfl
  · exact forall₂_withInputs (fun d i => .listened d i) fun d => .kept d

theorem enterInert_doorMove {c : Instr} {s t u : State} (k : LockLevels) (hs : s.sc.station = .listening)
    (ht : t.sc.station = .inert) (hu : u.du.doors = s.du.doors) :
    List.Forall₂ (s.DoorMove c t) s.du.doors (enterInert k u).du.doors := by
  simp only [enterInert_units, hu]
  exact forall₂_withLocks fun b d => .inert b d hs ht

theorem State.doorMove_of_owners {c : Instr} {k : LockLevels} {s t u : State} (hd : u.du = s.du)
    (hacts : u.ActsClear t → s.ActsClear t) (h : u.OwnersKept t ∨ u.OwnersCleared k t) :
    List.Forall₂ (s.DoorMove c t) s.du.doors t.du.doors := by
  obtain ⟨-, -, -, e⟩ | ⟨acts, -, -, -, e⟩ := h
  · rw [e, hd]; exact List.forall₂_same.mpr fun d _ => .kept d
  · rw [e, hd]; exact forall₂_withLocks fun b d => .cleared _ b d (hacts acts)

/-- Every command but the supply's own and the profile load moves each door in one of the ways of `State.DoorMove`. -/
theorem effectOf_doorMove {c : Instr} {s : State} (hc : isSupply c = false) (hp : ∀ dt m l, c ≠ .profileLoadComplete dt m l)
    (hr : readyOf c s = true) : List.Forall₂ (s.DoorMove c (effectOf c s)) s.du.doors (effectOf c s).du.doors := by
  have kept (h : (effectOf c s).du.doors = s.du.doors) :
      List.Forall₂ (s.DoorMove c (effectOf c s)) s.du.doors (effectOf c s).du.doors :=
    h ▸ List.forall₂_same.mpr fun d _ => .kept d
  cases c
  case powerOn | supplyLoss => cases hc
  case profileLoadComplete => exact absurd rfl (hp _ _ _)
  case restart dt n k =>
    by_cases hi : s.sc.station = .inert
    · exact kept (by simp [effectOf, restart, hi])
    · have e : (effectOf (.restart dt n k) s).du.doors = withLocks resetDoor k s.du.doors := by
        simp [effectOf, restart, hi, restartValues]
      rw [e]
      exact forall₂_withLocks fun b d => .restarted b d ⟨_, _, _, rfl⟩
  case frameReceived dt k =>
    obtain ⟨li, e, -⟩ | ⟨hl, e⟩ | ⟨f, n, x, -, -, -, e⟩ := frameReceived_cases k s
    · exact kept (by simp [effectOf, e])
    · have e' : effectOf (.frameReceived dt k) s = enterInert k s.frameTaken.duplicateFound := e
      rw [e']
      exact enterInert_doorMove k hl (by simp) (by simp [State.duplicateFound, State.frameTaken])
    · have e' : effectOf (.frameReceived dt k) s = reportPeer (s.arrivalOf f) (handOn k n x (s.arrivalOf f) s.frameTaken) := e
      obtain ⟨h1, h2, h3, h4⟩ | ⟨⟨a, b, ha, hb, hab⟩, h1, h2, h3, h4⟩ := handOn_owners k n x (s.arrivalOf f) s.frameTaken
      · exact kept (by rw [e', reportPeer_du, h4]; rfl)
      · have e2 : (effectOf (.frameReceived dt k) s).du.doors = withLocks (clearDoor s.now) k s.du.doors := by
          rw [e', reportPeer_du, h4]; rfl
        rw [e2]
        exact forall₂_withLocks fun x d => .cleared _ x d ⟨a, b, ha, by rw [e']; simpa using hb, hab⟩
  case cabUpdate i => exact State.doorMove_of_owners rfl id (cabUpdate_owners i s)
  case doorUpdate a b => exact doorUpdate_doorMove a b hr
  case dwellTimeEnd n a b =>
    simp only [readyOf, State.dwellDue, Bool.and_eq_true] at hr
    exact doorUpdate_doorMove a b hr.1
  case doorDeadlinePassed n a b =>
    simp only [readyOf, State.doorDeadlineDue, Bool.and_eq_true] at hr
    exact doorUpdate_doorMove a b hr.1
  case driveStopEnd n =>
    refine List.forall₂_map_right_iff.mpr (List.forall₂_same.mpr fun d _ => ?_)
    split
    next h => exact .driven d h.2
    · exact .kept d
  case doorEvent n k =>
    refine kept ?_
    unfold effectOf doorEvent; dsimp only; split <;> simp
  all_goals exact kept (by simp [effectOf])

/-! ### Unlocking (R171) -/

/-- Entries to which the door's state gives no use leave it alone (R170). -/
theorem Door.takeAll_of_forall {d : Door} {now : Time} {q : List DoorEvent}
    (h : ∀ e ∈ q, e.door = d.number → d.eventStep now e = d) : d.takeAll now q = d := by
  induction q with
  | nil => rfl
  | cons e q ih =>
    have taken : d.take now e = d := by
      unfold Door.take
      split
      next hn => exact h e (by simp) hn.symm
      · rfl
    rw [Door.takeAll, List.foldl_cons, taken]
    exact ih fun x hx => h x (by simp [hx])

/-- Only a BUTTON in RELEASED, a BEAM in OPEN and an EDGE in CLOSING act (R171 to R179). -/
theorem Door.eventStep_of_no_use {d : Door} {e : DoorEvent} (now : Time) (hr : ¬(d.state = .released ∧ e.kind = .button))
    (ho : ¬(d.state = .opened ∧ e.kind = .beam)) (hc : ¬(d.state = .closing ∧ e.kind = .edge)) : d.eventStep now e = d := by
  unfold Door.eventStep
  split
  next h1 h2 => exact absurd ⟨h1, h2⟩ hr
  next h1 h2 => exact absurd ⟨h1, h2⟩ ho
  next h1 h2 => exact absurd ⟨h1, h2⟩ hc
  · rfl

/-- In the other states no entry acts. -/
theorem Door.takeAll_of_idle {d : Door} (now : Time) (q : List DoorEvent) (hr : d.state ≠ .released) (ho : d.state ≠ .opened)
    (hc : d.state ≠ .closing) : d.takeAll now q = d :=
  Door.takeAll_of_forall fun _ _ _ => Door.eventStep_of_no_use now (fun h => hr h.1) (fun h => ho h.1) fun h => hc h.1

theorem Door.takeAll_of_locked {d : Door} (now : Time) (q : List DoorEvent) (h : d.state = .locked) : d.takeAll now q = d :=
  Door.takeAll_of_idle now q (by simp [h]) (by simp [h]) (by simp [h])

/-- A LOCKED door's periodic step unlocks it under the unlock conditions alone (R171). -/
theorem Door.periodic_unlocking {d : Door} {v : DoorView} {i : DoorInputs} (h : d.state = .locked)
    (he : (d.periodic v i).state = .unlocking) : v.mayUnlock d.number = true ∧ (d.periodic v i).lockActuator = true := by
  rw [Door.periodic, h] at he ⊢
  dsimp only [Door.lockedStep] at he ⊢
  split at he
  · cases he
  next hl =>
    split at he
    next hm => exact ⟨hm, by simp [hl, hm, Door.toUnlocking]⟩
    · rw [h] at he; cases he

theorem DoorView.mayUnlock_iff (v : DoorView) (n : Nat) : v.mayUnlock n = true ↔
    v.demand.source = .fresh ∧ v.demand.hold = .hold ∧ n ∈ v.demand.release ∧ v.still = true ∧ v.allHeld = true := by
  simp [DoorView.mayUnlock, and_assoc]

theorem resetDoor_state (b : Bool) (d : Door) : (resetDoor b d).state = .locked ∨ (resetDoor b d).state = .fault := by
  cases b <;> simp [resetDoor]

/-- A LOCKED door goes to UNLOCKING at the periodic step of a due update alone. -/
theorem State.DoorMove.unlocks {c : Instr} {s t : State} {d e : Door} (m : s.DoorMove c t d e) (hd : d.state = .locked)
    (he : e.state = .unlocking) :
    s.doorDue = true ∧ s.drives = true ∧ s.doorView.mayUnlock d.number = true ∧ e.lockActuator = true := by
  cases m
  case kept => rw [hd] at he; cases he
  case restarted b _ | inert b _ _ =>
    obtain h | h := resetDoor_state b d <;> rw [h] at he <;> cases he
  case cleared now b _ =>
    rw [clearDoor_of_not_fault (by simp [hd])] at he
    split at he <;> rw [hd] at he <;> cases he
  case driven h => simp [Door.stopOver, hd] at h
  case taken => rw [Door.takeAll_of_locked _ _ hd, hd] at he; cases he
  case stepped i due drives =>
    rw [Door.takeAll_of_locked _ _ hd] at he ⊢
    obtain ⟨hm, ha⟩ := Door.periodic_unlocking hd he
    exact ⟨due, drives, hm, ha⟩
  case listened i => simp [Door.listening, Door.report, hd] at he

/-- The doors stand in the order they had, each moved by the command. -/
theorem effectOf_door {c : Instr} {s : State} {k : Nat} {d : Door} (hc : isSupply c = false)
    (hp : ∀ dt m l, c ≠ .profileLoadComplete dt m l) (hr : readyOf c s = true) (hd : s.du.doors[k]? = some d) :
    ∃ e, (effectOf c s).du.doors[k]? = some e ∧ s.DoorMove c (effectOf c s) d e := by
  obtain ⟨hlen, hmove⟩ := List.forall₂_iff_get.mp (effectOf_doorMove hc hp hr)
  obtain ⟨hk, rfl⟩ := List.getElem?_eq_some_iff.mp hd
  exact ⟨_, List.getElem?_eq_getElem (hlen ▸ hk), hmove k hk (hlen ▸ hk)⟩

/-- Settles O50: a LOCKED door unlocks at a due update under every unlock condition. -/
theorem doorUnlocksOnly : Obligations.DoorUnlocksOnly := by
  intro c s t k d e h hd he hl hu
  obtain ⟨n, b, l, -, rfl⟩ | rfl | ⟨-, hr, rfl⟩ := exec_cases h
  · cases he
  · have e' : s.du.doors[k]? = some e := by simpa using he
    cases hd.symm.trans e'
    rw [hl] at hu; cases hu
  have hd' : (s.elapse (elapsedOf c)).du.doors[k]? = some d := by simpa using hd
  have reset (hx : e.state = .locked ∨ e.state = .fault) : False := by
    obtain hx | hx := hx <;> rw [hx] at hu <;> cases hu
  by_cases hc : isSupply c = true
  · cases c <;> cases hc <;> cases he
  by_cases hp : ∃ dt m l, c = .profileLoadComplete dt m l
  · obtain ⟨dt, m, l, rfl⟩ := hp
    exact (reset (forall_doors_profileLoadComplete (P := fun d => d.state = .locked ∨ d.state = .fault) resetDoor_state e
      (List.mem_of_getElem? he))).elim
  obtain ⟨x, hx, m⟩ := effectOf_door (Bool.not_eq_true _ ▸ hc) (fun dt m l hcm => hp ⟨dt, m, l, hcm⟩) hr hd'
  cases hx.symm.trans he
  obtain ⟨due, drives, hm, ha⟩ := m.unlocks hl hu
  obtain ⟨hsrc, hhold, hrel, hstill, hheld⟩ := (DoorView.mayUnlock_iff _ _).mp hm
  exact ⟨due, by simpa using drives, hsrc, hhold, hrel, hstill, hheld, ha⟩

/-! ### The latches (R51, R91, R142, R156, R163, R177) -/

/-- The acted-on clear count changes to another at a frame received and at a cab update alone (R51). -/
theorem State.ActsClear.command {c : Instr} {s : State} (h : s.ActsClear (effectOf c s)) :
    (∃ dt l, c = .frameReceived dt l) ∨ ∃ dt i, c = .cabUpdate dt i := by
  obtain ⟨a, b, ha, hb, hab⟩ := h
  have kept (h : (effectOf c s).pv.actedClear = s.pv.actedClear) : False := by
    rw [h, ha] at hb; cases hb; exact hab rfl
  cases c
  case frameReceived => exact .inl ⟨_, _, rfl⟩
  case cabUpdate => exact .inr ⟨_, _, rfl⟩
  case powerOn | supplyLoss => cases hb
  case restart k =>
    unfold effectOf restart at hb
    dsimp only at hb
    split at hb <;> cases hb
  case supplySettled =>
    refine (kept ?_).elim
    unfold effectOf supplySettled leavePowerup
    dsimp only
    (repeat' split) <;> simp [enterListening]
  case restartInputHigh =>
    refine (kept ?_).elim
    unfold effectOf restartInputHigh leavePowerup inertInputHigh
    dsimp only
    (repeat' split) <;> simp [enterListening]
  case profileLoadComplete m k =>
    refine (kept ?_).elim
    obtain ⟨-, e⟩ | ⟨-, -, e⟩ | ⟨-, -, e⟩ := profileLoadComplete_cases m k s <;> unfold effectOf <;> dsimp only <;> rw [e]
    · simp [failProfile_eq, useProfile, storeImage]
    · simp [enterListening, useImage, useProfile, storeImage]
    · simp [failProfile_eq, useImage, useProfile, storeImage]
  case doorUpdate | dwellTimeEnd | doorDeadlinePassed =>
    refine (kept ?_).elim
    unfold effectOf doorUpdate doorPeriodic doorListening
    dsimp only
    split <;> simp [State.pruneFrozen]
  case speedUpdate | zeroSpeedTimeout => exact (kept (by simp [effectOf, speedUpdate])).elim
  case statusExpiry => exact (kept (by simp [effectOf, statusExpiry])).elim
  case demandExpiry => exact (kept (by simp [effectOf, demandExpiry])).elim
  case staleEpisodeBegin => exact (kept (by simp [effectOf, staleEpisodeBegin])).elim
  all_goals exact (kept (by simp [effectOf])).elim

/-- A command that is no clear event and steps none of the three units itself keeps their latches. -/
theorem State.OwnerMove.latches {c : Instr} {s t : State} {su : SteeringUnit} {hu : HoldUnit} {lu : LevelUnit}
    (m : s.OwnerMove c t su hu lu) (hc : isSupply c = false) (ha : ¬s.ActsClear t) :
    su.latch = s.su.latch ∧ hu.latch = s.hu.latch ∧ lu.levelLatch = s.lu.levelLatch := by
  cases m
  case cleared acts => exact absurd acts ha
  case inert axle _ => cases axle <;> exact ⟨rfl, rfl, rfl⟩
  case unpowered h => rw [hc] at h; cases h
  case kept | restarted | listening | profiled => exact ⟨rfl, rfl, rfl⟩

theorem trackingCheck_latch {s : State} (h : s.su.latch = true) : (trackingCheck s).su.latch = true := by
  unfold trackingCheck
  split
  · split
    · rfl
    · exact h
  · exact h

theorem State.steerTransition_latch (s : State) (r : AxleRec) (b : Bool) (f : Lookup) :
    (s.steerTransition r b f).latch = s.su.latch := by
  have m := State.steerTransition_move s r b f
  generalize s.steerTransition r b f = u at m ⊢
  cases m <;> rfl

theorem steeringUpdate_latch {s : State} (h : s.su.latch = true) : (steeringUpdate s).su.latch = true := by
  cases ho : s.own.axle? with
  | none => simpa [steeringUpdate, ho] using h
  | some r =>
    rw [steeringUpdate_su ho]
    exact (State.steerTransition_latch ..).trans (trackingCheck_latch h)

theorem State.holdTransition_latch (s : State) (h : HoldUnit) (b : Bool) : (s.holdTransition h b).latch = h.latch := by
  unfold State.holdTransition HoldUnit.toApplying HoldUnit.toReleasing HoldUnit.toHeld
  (repeat' split) <;> rfl

theorem holdUpdate_latch {s : State} (h : s.hu.latch = true) : (holdUpdate s).hu.latch = true := by
  have measured : s.holdMeasured.latch = true := by simp [State.holdMeasured, h]
  rw [holdUpdate_hu, State.holdAfter]
  split
  · rw [State.holdTransition_latch, measured]
  · unfold State.holdListening; split <;> exact measured

theorem LevelUnit.settleAbort_latches (l : LevelUnit) (r : Nat) :
    (l.settleAbort r).levelLatch = l.levelLatch ∧ (l.settleAbort r).kneelLatch = l.kneelLatch := by
  unfold LevelUnit.settleAbort; split <;> exact ⟨rfl, rfl⟩

theorem LevelUnit.setCorner_latches (l : LevelUnit) (x : Side) (c : Corner) :
    (l.setCorner x c).levelLatch = l.levelLatch ∧ (l.setCorner x c).kneelLatch = l.kneelLatch := by
  cases x <;> exact ⟨rfl, rfl⟩

/-- The LEVEL latch after the corners' step is set by a timeout and cleared by none (R155). -/
theorem State.levelAfter_levelLatch {s : State} (skirt acted : Bool) (h : s.lu.levelLatch = true) :
    (s.levelAfter skirt acted).levelLatch = true := by
  have hl : (s.targetedLevel skirt acted).levelLatch = true := h
  simp [State.levelAfter, LevelUnit.finish, LevelUnit.stepCorners, hl]

/-- The kneel latch after an update: cleared where the request reads NONE (R163). -/
theorem State.levelAfter_kneelLatch (s : State) (skirt acted : Bool) :
    (s.levelAfter skirt acted).kneelLatch = if s.effectiveDemand.kneel = .none then false else s.lu.kneelLatch := rfl

theorem State.contactLevel_latches (s : State) :
    s.contactLevel.levelLatch = s.lu.levelLatch ∧ s.contactLevel.kneelLatch = true := by
  simp [State.contactLevel, LevelUnit.settleAbort_latches]

/-- The contact leaves what an update reads of the demand. -/
theorem skirtContact_effectiveDemand (s : State) : (skirtContact s).effectiveDemand = s.effectiveDemand := rfl

/-- A level update keeps a set LEVEL latch, and a set kneel latch unless it reads the request NONE (R155, R163). -/
theorem levelUpdate_latches (skirt : Bool) (s : State) :
    (s.lu.levelLatch = true → (levelUpdate skirt s).lu.levelLatch = true) ∧
    (s.lu.kneelLatch = true → s.effectiveDemand.kneel ≠ .none → (levelUpdate skirt s).lu.kneelLatch = true) := by
  unfold levelUpdate
  split
  · simp only [levelStep_lu, State.levelAfter_kneelLatch, skirtContact_effectiveDemand, skirtContact_lu,
      State.contactLevel_latches]
    exact ⟨fun h => State.levelAfter_levelLatch _ _ (by simpa [State.contactLevel_latches] using h), fun _ h => if_neg h⟩
  · simp only [levelStep_lu, State.levelAfter_kneelLatch]
    exact ⟨State.levelAfter_levelLatch _ _, fun h hn => by rw [if_neg hn, h]⟩

theorem closureComplete_latches (x : Side) (s : State) :
    (closureComplete x s).lu.levelLatch = s.lu.levelLatch ∧ (closureComplete x s).lu.kneelLatch = s.lu.kneelLatch := by
  simp [closureComplete, LevelUnit.settleAbort_latches, LevelUnit.setCorner_latches]

/-- A command that is no clear event clears none of the STEER, HOLD and LEVEL latches. -/
theorem effectOf_latches {c : Instr} {s : State} (hc : isSupply c = false) (ha : ¬s.ActsClear (effectOf c s)) :
    (s.su.latch = true → (effectOf c s).su.latch = true) ∧ (s.hu.latch = true → (effectOf c s).hu.latch = true) ∧
      (s.lu.levelLatch = true → (effectOf c s).lu.levelLatch = true) := by
  cases hw : stepsOwner c with
  | false =>
    obtain ⟨h1, h2, h3⟩ := (effectOf_ownerMove (s := s) hw).latches hc ha
    rw [h1, h2, h3]
    exact ⟨id, id, id⟩
  | true =>
    cases c
    case wheelEdge w d =>
      unfold effectOf
      obtain e | ⟨x, e⟩ := wheelEdge_su w d s <;> simp [e]
    case steeringUpdate | lockReleaseTimeEnd | centringSettleEnd | trackingTimeEnd =>
      exact ⟨fun h => steeringUpdate_latch h, by simp [effectOf], by simp [effectOf]⟩
    case holdUpdate | confirmTimeEnd | applyFaultTimeEnd | releaseTimeEnd =>
      exact ⟨by simp [effectOf], fun h => holdUpdate_latch h, by simp [effectOf]⟩
    case levelUpdate | pulseLimitEnd | settleTimeEnd =>
      exact ⟨by simp [effectOf], by simp [effectOf], (levelUpdate_latches _ _).1⟩
    case skirtContact => simp [effectOf, State.contactLevel_latches]
    case closureComplete x => simp [effectOf, closureComplete_latches]
    all_goals cases hw

/-- The kneel latch is cleared by a level update that reads the request NONE alone (R163). -/
theorem effectOf_kneelLatch {c : Instr} {s : State} (hc : isSupply c = false) (hr : readyOf c s = true)
    (h : s.lu.kneelLatch = true) :
    (effectOf c s).lu.kneelLatch = true ∨ (s.levelDue = true ∧ s.effectiveDemand.kneel = .none) := by
  cases hw : stepsOwner c with
  | false =>
    have m := effectOf_ownerMove (s := s) hw
    generalize (effectOf c s).su = su, (effectOf c s).hu = hu, (effectOf c s).lu = lu at m ⊢
    cases m
    case unpowered h => rw [hc] at h; cases h
    all_goals exact .inl h
  | true =>
    cases hl : updatesLevel c with
    | true =>
      obtain ⟨-, -, b, -, hdue, e⟩ := effectOf_updatesLevel hl hr
      rw [e]
      by_cases hn : s.effectiveDemand.kneel = .none
      · exact .inr ⟨hdue, hn⟩
      · exact .inl ((levelUpdate_latches b s).2 h hn)
    | false =>
      left
      cases c
      case levelUpdate | pulseLimitEnd | settleTimeEnd => cases hl
      case wheelEdge | steeringUpdate | lockReleaseTimeEnd | centringSettleEnd | trackingTimeEnd | holdUpdate | confirmTimeEnd |
        applyFaultTimeEnd | releaseTimeEnd => simpa [effectOf] using h
      case skirtContact => simp [effectOf, State.contactLevel_latches]
      case closureComplete x => simpa [effectOf, closureComplete_latches] using h
      all_goals cases hw

/-! ### The obstruction latches and the held doors (R177, R182) -/

theorem Door.eventStep_latch (d : Door) (now : Time) (e : DoorEvent) : (d.eventStep now e).latch = d.latch := by
  unfold Door.eventStep Door.toReversing; split <;> rfl

theorem Door.takeAll_latch (now : Time) (q : List DoorEvent) (d : Door) : (d.takeAll now q).latch = d.latch := by
  induction q generalizing d with
  | nil => rfl
  | cons e q ih =>
    rw [Door.takeAll, List.foldl_cons, ← Door.takeAll, ih, Door.take]
    split
    · exact Door.eventStep_latch d now e
    · rfl

/-- A FAULT door takes no entry of the queue (R179). -/
theorem Door.takeAll_of_fault {d : Door} (now : Time) (q : List DoorEvent) (h : d.state = .fault) : d.takeAll now q = d :=
  Door.takeAll_of_idle now q (by simp [h]) (by simp [h]) (by simp [h])

/-- No periodic step clears an obstruction latch. -/
theorem Door.periodic_latch {d : Door} (v : DoorView) (i : DoorInputs) (h : d.latch = true) : (d.periodic v i).latch = true := by
  have fault : (d.orFault v i).latch = true := by unfold Door.orFault; split <;> exact h
  have beam : (d.beamRead v i).latch = true := by unfold Door.beamRead; split <;> exact h
  unfold Door.periodic
  split
  · unfold Door.lockedStep; (repeat' split) <;> exact h
  · unfold Door.unlockingStep; split
    · split <;> exact h
    · exact fault
  · unfold Door.releasedStep; (repeat' split) <;> exact h
  · unfold Door.openingStep; split
    · exact h
    · exact fault
  · unfold Door.openedStep; split <;> exact beam
  · unfold Door.closingStep; split
    · exact h
    · split
      · exact h
      · exact fault
  · unfold Door.reversingStep; split
    · simp [h]
    · exact fault
  · unfold Door.lockingStep; split
    · exact h
    · exact fault
  · unfold Door.report; split <;> exact h

theorem State.DoorMove.latch {c : Instr} {s t : State} {d e : Door} (m : s.DoorMove c t d e) (ha : ¬s.ActsClear t)
    (h : d.latch = true) : e.latch = true := by
  cases m
  case cleared acts => exact absurd acts ha
  case kept | restarted | inert | driven => exact h
  case taken => rw [Door.takeAll_latch]; exact h
  case stepped => exact Door.periodic_latch _ _ (by rw [Door.takeAll_latch]; exact h)
  case listened i => unfold Door.listening Door.report; dsimp only; split <;> exact h

/-- A door held for the clear event: in FAULT, and reported so (R182). -/
def Door.Held (d : Door) : Prop := d.state = .fault ∧ d.heldFault = true ∧ d.lockedFault = false

theorem Door.Held.report {d : Door} (h : d.Held) (b : Bool) : (d.report b).Held := by
  obtain ⟨hs, hh, hl⟩ := h
  simp [Door.report, hs, hh, Door.Held]

/-- A held door stays held but at a clear event, a restart and an entry to INERT. -/
theorem State.DoorMove.held {c : Instr} {s t : State} {d e : Door} (m : s.DoorMove c t d e) (ha : ¬s.ActsClear t)
    (hc : ∀ dt n l, c ≠ .restart dt n l) (hi : t.sc.station = .inert → s.sc.station = .inert) (h : d.Held) : e.Held := by
  cases m
  case cleared acts => exact absurd acts ha
  case kept => exact h
  case restarted hr =>
    obtain ⟨dt, n, l, hr⟩ := hr
    exact absurd hr (hc dt n l)
  case inert b hs ht => rw [hi ht] at hs; cases hs
  case driven hd => simp [Door.stopOver, h.1] at hd
  case taken => rw [Door.takeAll_of_fault _ _ h.1]; exact h
  case stepped i _ _ =>
    rw [Door.takeAll_of_fault _ _ h.1, Door.periodic, h.1]
    exact h.report _
  case listened i => exact h.report _

/-- Settles O52: the acted-on clear count changes with a clear event, and every other command keeps the latches. -/
theorem latchesPersist : Obligations.LatchesPersist := by
  intro c s t h hc
  obtain ⟨n, b, l, rfl, -⟩ | rfl | ⟨-, hr, rfl⟩ := exec_cases h
  · cases hc
  · simp only [State.elapse_frame]
    exact ⟨fun _ => ⟨id, id, id, fun _ k d hd hl => ⟨d, hd, hl⟩, fun _ _ _ k d hd h1 h2 h3 => ⟨d, hd, h1, h2, h3⟩⟩, .inl⟩
  have pv : (s.elapse (elapsedOf c)).pv = s.pv := by simp
  refine ⟨fun hacted => ?_, fun hk => effectOf_kneelLatch hc hr (by simpa using hk)⟩
  have ha : ¬(s.elapse (elapsedOf c)).ActsClear (effectOf c (s.elapse (elapsedOf c))) := fun ha =>
    hacted ⟨ha.command, by rw [← pv]; exact ha⟩
  have latches := effectOf_latches hc ha
  simp only [State.elapse_frame] at latches
  refine ⟨latches.1, latches.2.1, latches.2.2, fun hp k d hd hl => ?_, fun hp hn hi k d hd h1 h2 h3 => ?_⟩
  · obtain ⟨e, he, m⟩ := effectOf_door (d := d) hc hp hr (by simpa using hd)
    exact ⟨e, he, m.latch ha hl⟩
  · obtain ⟨e, he, m⟩ := effectOf_door (d := d) hc hp hr (by simpa using hd)
    exact ⟨e, he, m.held ha hn (by simpa using hi) ⟨h1, h2, h3⟩⟩

end Sys2Proof.Machine
end

section
/-! PROOF. How a step and a command are taken, what the units' updates leave alone, and when a frame goes in flight (R30, R31, R33). -/

namespace Sys2Proof.Machine

/-! ### What the updates leave alone -/

/-- Raising on a condition, with every field but the summary as it was. -/
theorem State.raiseIf_eq (b : Bool) (k : EventKind) (s : State) : s.raiseIf b k =
    { s with li := { s.li with summary := if b then insertKind k s.li.summary else s.li.summary } } := by
  cases b <;> rfl

theorem steeringUpdate_writes (s : State) : ∃ su queue summary next, steeringUpdate s = { s with
    su := su, pu := { s.pu with queue := queue }, li := { s.li with summary := summary },
    sched := { s.sched with steering := next } } := by
  unfold steeringUpdate
  split
  · unfold steerStep trackingCheck
    dsimp only
    (repeat' split) <;> exact ⟨_, _, _, _, rfl⟩
  · exact ⟨_, _, _, _, rfl⟩

theorem jointUpdate_writes (s : State) : ∃ ju queue summary next, jointUpdate s = { s with
    ju := ju, pu := { s.pu with queue := queue }, li := { s.li with summary := summary },
    sched := { s.sched with joint := next } } := by
  unfold jointUpdate
  split
  · dsimp only
    split
    · simp only [jointStep, State.raiseIf_eq]
      exact ⟨_, _, _, _, rfl⟩
    · exact ⟨_, _, _, _, rfl⟩
  · exact ⟨_, _, _, _, rfl⟩

theorem brakeUpdate_writes (s : State) : ∃ load rev demand left right summary next, brakeUpdate s = { s with
    bu := { s.bu with load := load, reverseStop := rev, demand := demand, left := left, right := right },
    li := { s.li with summary := summary }, sched := { s.sched with brake := next } } := by
  unfold brakeUpdate
  split
  · dsimp only
    split
    · simp only [brakeStep, State.raiseIf_eq]
      exact ⟨_, _, _, _, _, _, _, rfl⟩
    · exact ⟨_, _, _, _, _, _, _, rfl⟩
  · exact ⟨_, _, _, _, _, _, _, rfl⟩

theorem holdUpdate_writes (s : State) : ∃ hu summary next, holdUpdate s = { s with
    hu := hu, li := { s.li with summary := summary }, sched := { s.sched with hold := next } } := by
  simp only [holdUpdate, State.raiseIf_eq]
  exact ⟨_, _, _, rfl⟩

theorem State.setLevel_writes (l : LevelUnit) (s : State) :
    ∃ frozen, s.setLevel l = { s with lu := l, bu := { s.bu with frozen := frozen } } := by
  unfold State.setLevel
  (repeat' split) <;> exact ⟨_, rfl⟩

theorem skirtContact_writes (s : State) : ∃ lu frozen summary, skirtContact s = { s with
    lu := lu, bu := { s.bu with frozen := frozen }, li := { s.li with summary := summary } } := by
  obtain ⟨f, e⟩ := State.setLevel_writes s.contactLevel s
  rw [skirtContact, e]
  exact ⟨_, _, _, rfl⟩

theorem closureComplete_writes (x : Side) (s : State) : ∃ lu frozen, closureComplete x s = { s with
    lu := lu, bu := { s.bu with frozen := frozen } } := by
  obtain ⟨f, e⟩ := State.setLevel_writes ((s.lu.setCorner x (s.lu.corner x).closed).settleAbort s.sc.prof.rideHeight) s
  exact ⟨_, f, e⟩

theorem levelStep_writes (skirt acted : Bool) (s : State) : ∃ lu frozen summary next, levelStep skirt acted s = { s with
    lu := lu, bu := { s.bu with frozen := frozen }, li := { s.li with summary := summary },
    sched := { s.sched with level := next } } := by
  obtain ⟨f, e⟩ := State.setLevel_writes (s.levelAfter skirt acted) s
  simp only [levelStep, e, State.raiseIf_eq]
  exact ⟨_, _, _, _, rfl⟩

theorem levelUpdate_writes (skirt : Bool) (s : State) : ∃ lu frozen summary next, levelUpdate skirt s = { s with
    lu := lu, bu := { s.bu with frozen := frozen }, li := { s.li with summary := summary },
    sched := { s.sched with level := next } } := by
  unfold levelUpdate
  split
  · obtain ⟨_, _, _, e⟩ := skirtContact_writes s
    rw [e]
    obtain ⟨_, _, _, _, e⟩ := levelStep_writes skirt true _
    rw [e]
    exact ⟨_, _, _, _, rfl⟩
  · exact levelStep_writes ..

theorem doorEventSteps_writes (s : State) : ∃ summary, doorEventSteps s = { s with
    du := (doorEventSteps s).du, li := { s.li with summary := summary } } := by
  have fold (q : List DoorEvent) : ∀ t : State, ∃ summary, q.foldl takeDoorEvent t = { t with
      du := (q.foldl takeDoorEvent t).du, li := { t.li with summary := summary } } := by
    induction q with
    | nil => exact fun t => ⟨_, rfl⟩
    | cons e q ih =>
      intro t
      obtain ⟨m, h⟩ := ih (takeDoorEvent t e)
      refine ⟨m, ?_⟩
      rw [List.foldl_cons, h]
      simp only [takeDoorEvent, State.raiseIf_eq]
  exact fold _ _

theorem doorUpdate_writes (a b : DoorInputs) (s : State) : ∃ doors queue frozen summary next, doorUpdate a b s = { s with
    du := { s.du with doors := doors, queue := queue }, pv := { s.pv with frozen := frozen },
    li := { s.li with summary := summary }, sched := { s.sched with door := next } } := by
  unfold doorUpdate
  dsimp only
  split
  · obtain ⟨m, e⟩ := doorEventSteps_writes s
    rw [doorEventSteps_doors] at e
    rw [e]
    simp only [doorPeriodic, State.raiseIf_eq]
    exact ⟨_, _, _, _, _, rfl⟩
  · exact ⟨_, _, _, _, _, rfl⟩

/-- A command other than POWER_ON answers the state it finds, or its effect on it. -/
theorem exec_answers {c : Instr} (s : State) (hc : ∀ n b l, c ≠ .powerOn n b l) :
    exec c s = .next (s.elapse (elapsedOf c)) ∨ exec c s = .next (effectOf c (s.elapse (elapsedOf c))) := by
  rw [exec_eq c s hc]
  split
  · exact .inr rfl
  · exact .inl rfl

/-- Settles O53: each update of a unit writes its unit and the items named beside it. -/
theorem framesOfUpdates : Obligations.FramesOfUpdates := by
  intro c s u
  have answers (hc : ∀ n b l, c ≠ .powerOn n b l) : exec c s = .next u ∨ exec c s = .next (effectOf c u) := exec_answers s hc
  refine ⟨?_, ?_, ?_, ?_, ?_, ?_⟩
  · intro hc
    obtain ⟨hn, e⟩ : (∀ n b l, c ≠ .powerOn n b l) ∧ effectOf c u = steeringUpdate u := by
      obtain ⟨dt, rfl | rfl | rfl | rfl⟩ := hc <;> exact ⟨by simp, rfl⟩
    rw [e] at answers
    obtain ⟨su, q, m, n, h⟩ := steeringUpdate_writes u
    rw [h] at answers
    exact (answers hn).elim (fun x => ⟨_, _, _, _, x⟩) fun x => ⟨su, q, m, n, x⟩
  · intro hc
    obtain ⟨hn, e⟩ : (∀ n b l, c ≠ .powerOn n b l) ∧ effectOf c u = jointUpdate u := by
      obtain ⟨dt, rfl | rfl | rfl | rfl⟩ := hc <;> exact ⟨by simp, rfl⟩
    rw [e] at answers
    obtain ⟨ju, q, m, n, h⟩ := jointUpdate_writes u
    rw [h] at answers
    exact (answers hn).elim (fun x => ⟨_, _, _, _, x⟩) fun x => ⟨ju, q, m, n, x⟩
  · rintro ⟨dt, rfl⟩
    obtain ⟨l, v, d, x, y, m, n, h⟩ := brakeUpdate_writes u
    have e : effectOf (.brakeUpdate dt) u = _ := h
    rw [e] at answers
    exact (answers (by simp)).elim (fun x => ⟨_, _, _, _, _, _, _, x⟩) fun z => ⟨l, v, d, x, y, m, n, z⟩
  · intro hc
    obtain ⟨hn, e⟩ : (∀ n b l, c ≠ .powerOn n b l) ∧ effectOf c u = holdUpdate u := by
      obtain ⟨dt, rfl | rfl | rfl | rfl⟩ := hc <;> exact ⟨by simp, rfl⟩
    rw [e] at answers
    obtain ⟨hu, m, n, h⟩ := holdUpdate_writes u
    rw [h] at answers
    exact (answers hn).elim (fun x => ⟨_, _, _, x⟩) fun x => ⟨hu, m, n, x⟩
  · intro hc
    obtain ⟨hn, lu, f, m, n, h⟩ : (∀ n b l, c ≠ .powerOn n b l) ∧ ∃ lu frozen summary next, effectOf c u = { u with
        lu := lu, bu := { u.bu with frozen := frozen }, li := { u.li with summary := summary },
        sched := { u.sched with level := next } } := by
      obtain ⟨dt, x, b, rfl | rfl | rfl | rfl | rfl⟩ := hc
      · exact ⟨by simp, levelUpdate_writes b u⟩
      · exact ⟨by simp, levelUpdate_writes b u⟩
      · exact ⟨by simp, levelUpdate_writes b u⟩
      · obtain ⟨lu, f, m, h⟩ := skirtContact_writes u
        exact ⟨by simp, lu, f, m, u.sched.level, h⟩
      · obtain ⟨lu, f, h⟩ := closureComplete_writes x u
        exact ⟨by simp, lu, f, u.li.summary, u.sched.level, h⟩
    rw [h] at answers
    exact (answers hn).elim (fun x => ⟨_, _, _, _, x⟩) fun x => ⟨lu, f, m, n, x⟩
  · intro hc
    obtain ⟨hn, ds, q, f, m, n, h⟩ : (∀ n b l, c ≠ .powerOn n b l) ∧ ∃ doors queue frozen summary next, effectOf c u = { u with
        du := { u.du with doors := doors, queue := queue }, pv := { u.pv with frozen := frozen },
        li := { u.li with summary := summary }, sched := { u.sched with door := next } } := by
      obtain ⟨dt, n, a, b, rfl | rfl | rfl | rfl⟩ := hc
      · exact ⟨by simp, doorUpdate_writes a b u⟩
      · exact ⟨by simp, doorUpdate_writes a b u⟩
      · exact ⟨by simp, doorUpdate_writes a b u⟩
      · exact ⟨by simp, _, u.du.queue, u.pv.frozen, u.li.summary, u.sched.door, rfl⟩
    rw [h] at answers
    exact (answers hn).elim (fun x => ⟨_, _, _, _, _, x⟩) fun x => ⟨ds, q, f, m, n, x⟩

/-! ### Frames go in flight in their slots (R30, R31) -/

/-- A station that is not sending sends nothing after what changes the summary and the transmit set alone. -/
theorem requestFinalNotice_sending (s : State) : s.requestFinalNotice.li.sending = s.li.sending := by
  unfold State.requestFinalNotice; split <;> simp

theorem enterInert_sending (k : LockLevels) (s : State) : (enterInert k s).li.sending = s.li.sending := by
  simp [enterInert, requestFinalNotice_sending]

theorem enterListening_sending (s : State) : (enterListening s).li.sending = s.li.sending := rfl

theorem leavePowerup_sending (s : State) : (leavePowerup s).li.sending = s.li.sending := by
  obtain e | e := leavePowerup_cases s <;> rw [e]
  exact enterListening_sending _

theorem pathOdometerChanged_sending (s : State) : (pathOdometerChanged s).li.sending = s.li.sending := by
  unfold pathOdometerChanged layPoint; dsimp only; (repeat' split) <;> simp

theorem lagCheck_sending (s : State) : (lagCheck s).li.sending = s.li.sending := by
  unfold lagCheck; (repeat' split) <;> simp

theorem wheelEdge_sending (w : Side) (d : Direction) (s : State) : (wheelEdge w d s).li.sending = s.li.sending := by
  unfold wheelEdge leadingEdge followingEdge recordEdge
  dsimp only
  (repeat' split) <;> simp [lagCheck_sending, pathOdometerChanged_sending]

theorem conversionComplete_sending (x : BitVec 10) (s : State) : (conversionComplete x s).li.sending = s.li.sending := by
  unfold conversionComplete completeConversion
  split
  · dsimp only
    split
    · rw [yawCompletion_li]; simp
    · simp
  · rfl

theorem handOn_sending (k : LockLevels) (n : Fin 8) (f : Frame) (a : Time) (s : State) :
    (handOn k n f a s).li.sending = s.li.sending := by
  cases f with
  | status r => simp [handOn, acceptStatus]
  | path p => 
    unfold handOn acceptPath pathIntake; dsimp only; (repeat' split) <;> simp [takeOnly, takeNewest]
  | demand r => simp [handOn]
  | notice ks => simp [handOn]

theorem frameReceived_sending (k : LockLevels) (s : State) : (frameReceived k s).li.sending = s.li.sending := by
  unfold frameReceived applyVerdict
  split
  · rfl
  · dsimp only
    split
    · split
      case h_5 => simp [handOn_sending]
      case h_4 => split <;> simp [enterInert_sending]
      all_goals simp
    · rfl

theorem characterReceived_sending (x : Byte) (i : CharacterInstant) (s : State) :
    (characterReceived x i s).li.sending = s.li.sending := by
  unfold characterReceived
  split
  · cases i <;> dsimp only
    case startBit => unfold startBit; (repeat' split) <;> simp
    case stopBit good =>
      unfold characterTaken badChar outsideChar insideChar
      dsimp only
      (repeat' split) <;> rfl
    case lineIdle => unfold lineIdle; dsimp only; (repeat' split) <;> rfl
  · unfold State.lineSeen; (repeat' split) <;> rfl

/-- No command but FRAME_BEGIN puts a frame in flight. -/
theorem effectOf_sending {c : Instr} {s : State} (hc : ∀ dt k, c ≠ .frameBegin dt k) (h : s.li.sending = none) :
    (effectOf c s).li.sending = none := by
  cases c
  case frameBegin => exact absurd rfl (hc _ _)
  case powerOn | supplyLoss | transmitComplete => rfl
  case restart k =>
    unfold effectOf restart; dsimp only; split <;> rfl
  case supplySettled =>
    unfold effectOf
    obtain e | e := supplySettled_cases s <;> dsimp only <;> rw [e]
    · exact h
    · rw [leavePowerup_sending]; exact h
  case restartInputHigh =>
    unfold effectOf
    obtain e | ⟨-, e⟩ | ⟨-, e⟩ := restartInputHigh_cases s <;> dsimp only <;> rw [e]
    · exact h
    · rw [leavePowerup_sending]; exact h
    · unfold inertInputHigh; dsimp only; split
      · rw [requestFinalNotice_sending]; exact h
      · exact h
  case profileLoadComplete m k =>
    unfold effectOf
    obtain ⟨-, e⟩ | ⟨-, -, e⟩ | ⟨-, -, e⟩ := profileLoadComplete_cases m k s <;> dsimp only <;> rw [e]
    · rw [failProfile_eq, enterInert_sending]; exact h
    · rw [enterListening_sending]; simpa [useImage, useProfile, storeImage] using h
    · rw [failProfile_eq, enterInert_sending]; simpa [useImage, useProfile, storeImage, State.startIdleWait] using h
  case wheelEdge w d => exact (wheelEdge_sending w d s).trans h
  case conversionComplete x => exact (conversionComplete_sending x s).trans h
  case frameReceived k => exact (frameReceived_sending k s).trans h
  case statusExpiry n => simpa [effectOf, statusExpiry] using h
  case staleEpisodeBegin => exact h
  case steeringUpdate | lockReleaseTimeEnd | centringSettleEnd | trackingTimeEnd =>
    obtain ⟨_, _, _, _, e⟩ := steeringUpdate_writes s
    unfold effectOf; dsimp only; rw [e]; exact h
  case jointUpdate | riskClearTimeEnd | damperLowTimeEnd | damperGoodTimeEnd =>
    obtain ⟨_, _, _, _, e⟩ := jointUpdate_writes s
    unfold effectOf; dsimp only; rw [e]; exact h
  case brakeUpdate =>
    obtain ⟨_, _, _, _, _, _, _, e⟩ := brakeUpdate_writes s
    unfold effectOf; dsimp only; rw [e]; exact h
  case cabUpdate i =>
    unfold effectOf; dsimp only
    cases hd : s.drives with
    | true => rw [cabUpdate_li hd]; exact h
    | false => simpa [cabUpdate, hd] using h
  case holdUpdate | confirmTimeEnd | applyFaultTimeEnd | releaseTimeEnd =>
    obtain ⟨_, _, _, e⟩ := holdUpdate_writes s
    unfold effectOf; dsimp only; rw [e]; exact h
  case levelUpdate dt b =>
    obtain ⟨_, _, _, _, e⟩ := levelUpdate_writes b s
    unfold effectOf; dsimp only; rw [e]; exact h
  case pulseLimitEnd dt x b | settleTimeEnd dt x b =>
    obtain ⟨_, _, _, _, e⟩ := levelUpdate_writes b s
    unfold effectOf; dsimp only; rw [e]; exact h
  case skirtContact =>
    obtain ⟨_, _, _, e⟩ := skirtContact_writes s
    unfold effectOf; dsimp only; rw [e]; exact h
  case doorEvent n k =>
    unfold effectOf doorEvent; dsimp only; split <;> exact h
  case doorUpdate dt a b =>
    obtain ⟨_, _, _, _, _, e⟩ := doorUpdate_writes a b s
    unfold effectOf; dsimp only; rw [e]; exact h
  case dwellTimeEnd dt n a b | doorDeadlinePassed dt n a b =>
    obtain ⟨_, _, _, _, _, e⟩ := doorUpdate_writes a b s
    unfold effectOf; dsimp only; rw [e]; exact h
  case listenWindowEnd =>
    unfold effectOf listenWindowEnd pathEnterDriving; dsimp only
    (repeat' split) <;> exact h
  case peerSilenceTimeout => exact h
  case characterReceived x i => exact (characterReceived_sending x i s).trans h
  case idleWaitComplete =>
    unfold effectOf idleWaitComplete; dsimp only; split <;> exact h
  case noticeInterval =>
    unfold effectOf noticeInterval; dsimp only; split <;> exact h
  case scanStart | speedUpdate | zeroSpeedTimeout | frameGapTimeout | statusRequest | demandExpiry |
    lampTestEnd | closureComplete | driveStopEnd => exact h

/-- A slot of a rank starts a whole number of rounds and the rank's slots after the line fell quiet (R30). -/
theorem State.inSlot_iff (s : State) (rank : Nat) : s.inSlot rank = true ↔
    ∃ q, s.li.quiet = some q ∧
      (s.now - q).toNat % (19 * 12 * s.sc.prof.bitTime) = rank * 12 * s.sc.prof.bitTime := by
  unfold State.inSlot
  cases s.li.quiet with
  | none => simp
  | some q => simp [age, Config.roundSlots, Config.slotBits, State.bitTime]

/-- What must hold for a frame to begin (R25, R31, R33). -/
theorem State.mayBegin_iff (k : FrameKind) (s : State) : s.mayBegin k = true ↔
    s.sc.station.sends k = true ∧ s.li.pending.has k = true ∧ s.li.mode = .taking ∧ s.li.sending = none ∧ s.li.frame = none ∧
      s.li.startBit = none ∧ s.li.lineActive = false ∧ s.inSlot (waitRank k s.sc.strap) = true ∧ (s.bodyNow k).isSome = true := by
  simp [State.mayBegin, and_assoc]

/-- Settles O21: only FRAME_BEGIN puts a frame in flight, and its condition is that of the slot. -/
theorem framesBeginInTheirSlots : Obligations.FramesBeginInTheirSlots := by
  intro c s t h hs ht
  obtain ⟨n, b, l, -, rfl⟩ | rfl | ⟨-, hr, rfl⟩ := exec_cases h
  · exact absurd rfl ht
  · exact absurd (by simpa using hs) ht
  by_cases hc : ∃ dt k, c = .frameBegin dt k
  · obtain ⟨dt, k, rfl⟩ := hc
    obtain ⟨hsends, hpend, -, -, hframe, hbit, hactive, hslot, -⟩ := (State.mayBegin_iff k _).mp hr
    obtain ⟨q, hq, hmod⟩ := (State.inSlot_iff _ _).mp hslot
    simp only [State.elapse_frame] at hsends hpend hframe hbit hactive hq hmod
    refine ⟨dt, k, q, ((s.elapse dt).now - q).toNat / (19 * 12 * s.sc.prof.bitTime), rfl, hpend, hframe, hbit, hactive, hq,
      hsends, ?_⟩
    have whole := Nat.div_add_mod ((s.elapse dt).now - q).toNat (19 * 12 * s.sc.prof.bitTime)
    change ((s.elapse dt).now - q).toNat % (19 * 12 * s.sc.prof.bitTime) = waitRank k s.sc.strap * 12 * s.sc.prof.bitTime at hmod
    rw [hmod] at whole
    exact whole.symm.trans (by ring)
  · exact absurd (effectOf_sending (fun dt k e => hc ⟨dt, k, e⟩) (by simpa using hs)) ht

/-! ### Steps and commands -/

/-- Settles O1: a step is defined so. -/
theorem stepTakesFront : Obligations.StepTakesFront := by
  refine ⟨fun c rest s => rfl, fun s h => ?_⟩
  have e : step s = .next (s.elapse 1) := by unfold step; rw [h]
  rw [e]
  rfl

/-- Every effect leaves the queue of waiting commands alone, and local time but for POWER_ON (log entry 1). -/
theorem effectOf_pending (c : Instr) (s : State) : (effectOf c s).pending = s.pending := by
  cases c
  case powerOn | supplyLoss => rfl
  all_goals simp [effectOf]

theorem effectOf_now {c : Instr} (s : State) (hc : ∀ n b l, c ≠ .powerOn n b l) : (effectOf c s).now = s.now := by
  cases c
  case powerOn => exact absurd rfl (hc _ _ _)
  case supplyLoss => rfl
  all_goals simp [effectOf]

theorem exec_powerOn (n : Fin 8) (b : Bool) (l : LockLevels) (s : State) :
    exec (.powerOn n b l) s = .next (powerOn n b l s) := rfl

/-- Settles O2: a command's effect touches neither the queue nor local time. -/
theorem everyCommandCompletes : Obligations.EveryCommandCompletes := by
  refine ⟨fun c s => ?_, fun c s hp hc => ?_, fun n b l s => ⟨_, exec_powerOn n b l s, rfl⟩⟩
  · by_cases hc : ∃ n b l, c = .powerOn n b l
    · obtain ⟨n, b, l, rfl⟩ := hc
      exact ⟨_, exec_powerOn n b l s, rfl⟩
    · obtain e | e := exec_answers s fun n b l h => hc ⟨n, b, l, h⟩
      · exact ⟨_, e, by simp⟩
      · exact ⟨_, e, by simp [effectOf_pending]⟩
  · have now := State.elapse_now (elapsedOf c) hp
    obtain e | e := exec_answers s hc
    · exact ⟨_, e, now⟩
    · exact ⟨_, e, (effectOf_now _ hc).trans now⟩

/-- Nothing passes at an unpowered part. -/
theorem State.elapse_of_unpowered {s : State} (dt : Nat) (h : s.powered = false) : s.elapse dt = s := by
  simp [State.elapse, h]

theorem supplyLoss_atRest (s : State) : (supplyLoss s).AtRest :=
  State.atRest_of_reset (a := false) rfl rfl rfl rfl ⟨rfl, rfl, rfl, rfl⟩ (fun _ h => by cases h)
    ⟨rfl, rfl, rfl, rfl, rfl, rfl⟩

/-- Settles O3: an unpowered part has reset units, and takes POWER_ON alone. -/
theorem supplyLossStopsEverything : Obligations.SupplyLossStopsEverything := by
  refine ⟨fun dt s hp => ⟨_, runWhen_ready hp rfl, rfl, rfl, rfl, supplyLoss_atRest _⟩, fun c s hp hc => ?_⟩
  have off : (s.elapse (elapsedOf c)).powered = false := by simpa using hp
  rw [exec_eq c s hc, off, Bool.false_and, if_neg Bool.false_ne_true, State.elapse_of_unpowered _ hp]

end Sys2Proof.Machine
end

section
/-! PROOF. The door interlocks (R168 to R182): what an update makes of each door and what it raises. -/

namespace Sys2Proof.Machine

/-! ### What an update makes of one door -/

theorem withInputs_getElem? {f : Door → DoorInputs → Door} {a b : DoorInputs} {l : List Door} {k : Nat} {d : Door}
    (hk : k < 2) (hd : l[k]? = some d) : (withInputs f a b l)[k]? = some (f d (if k = 0 then a else b)) := by
  match l, k with
  | [], _ => cases hd
  | [x], 0 => cases hd; rfl
  | [x], n + 1 => cases hd
  | x :: y :: rest, 0 => cases hd; rfl
  | x :: y :: rest, 1 => cases hd; rfl
  | _ :: _ :: _, n + 2 => omega

theorem withInputs_length (f : Door → DoorInputs → Door) (a b : DoorInputs) (l : List Door) :
    (withInputs f a b l).length = l.length := by
  match l with
  | [] => rfl
  | [_] => rfl
  | _ :: _ :: _ => rfl

/-- A door after an update in ACTIVE or ISOLATED: the event steps, then the periodic step with its own inputs (R170). -/
def State.doorAfter (s : State) (d : Door) (i : DoorInputs) : Door :=
  (d.takeAll s.now s.du.queue).periodic s.doorView i

theorem doorEventSteps_door {s : State} {k : Nat} {d : Door} (hd : s.du.doors[k]? = some d) :
    (doorEventSteps s).du.doors[k]? = some (d.takeAll s.now s.du.queue) := by
  rw [doorEventSteps_doors]
  simp [hd, Door.takeAll]

/-- A step that one of the first two doors makes is a step that some door makes. -/
theorem anyStep_withInputs {p : Door → Door → Bool} {l : List Door} {f : Door → DoorInputs → Door} {a b : DoorInputs} {k : Nat}
    {e : Door} (hk : k < 2) (he : l[k]? = some e) (hp : p e (f e (if k = 0 then a else b)) = true) :
    anyStep p l (withInputs f a b l) = true := by
  have after := withInputs_getElem? (f := f) (a := a) (b := b) hk he
  refine List.any_eq_true.mpr ⟨(e, f e (if k = 0 then a else b)), List.mem_of_getElem? (i := k) ?_, hp⟩
  simp [List.getElem?_zip_eq_some, he, after]

/-- Raising on a condition puts the kind in the summary, and takes none out (R36). -/
theorem State.mem_raiseIf (x : EventKind) (b : Bool) (k : EventKind) (s : State) :
    x ∈ (s.raiseIf b k).li.summary ↔ (b = true ∧ x = k) ∨ x ∈ s.li.summary := by
  cases b <;> simp [mem_insertKind]

/-- Taking entries takes no kind out of the summary. -/
theorem mem_foldl_takeDoorEvent {x : EventKind} {q : List DoorEvent} {t : State} (h : x ∈ t.li.summary) :
    x ∈ (q.foldl takeDoorEvent t).li.summary := by
  induction q generalizing t with
  | nil => exact h
  | cons e q ih => exact ih ((State.mem_raiseIf ..).mpr (.inr h))

section
variable {a b : DoorInputs} {s : State} (drives : s.drives = true)
include drives

theorem doorUpdate_queue : (doorUpdate a b s).du.queue = [] := by
  simp [doorUpdate, drives, doorPeriodic, doorEventSteps_doors]

/-- The events of an update's event steps and of its periodic steps (R170, R171, R176, R179). -/
theorem mem_doorUpdate_summary (x : EventKind) : x ∈ (doorUpdate a b s).li.summary ↔
    (anyStep turnedBack (doorEventSteps s).du.doors (doorUpdate a b s).du.doors = true ∧ x = .doorObstructed) ∨
    (anyStep driveFailed (doorEventSteps s).du.doors (doorUpdate a b s).du.doors = true ∧ x = .doorDriveFault) ∨
    (anyStep lockFailed (doorEventSteps s).du.doors (doorUpdate a b s).du.doors = true ∧ x = .doorLockFault) ∨
    x ∈ (doorEventSteps s).li.summary := by
  simp only [doorUpdate, drives, if_true, doorPeriodic, State.pruneFrozen_frame, State.raiseIf_frame, State.mem_raiseIf]

variable {k : Nat} {d : Door} (hk : k < 2) (hd : s.du.doors[k]? = some d)
include hk hd

theorem doorUpdate_door :
    (doorUpdate a b s).du.doors[k]? = some (s.doorAfter d (if k = 0 then a else b)) := by
  simp only [doorUpdate, drives, if_true, doorPeriodic, State.pruneFrozen_frame, State.raiseIf_frame]
  exact withInputs_getElem? hk (doorEventSteps_door hd)

theorem doorUpdate_anyStep {p : Door → Door → Bool}
    (hp : p (d.takeAll s.now s.du.queue) (s.doorAfter d (if k = 0 then a else b)) = true) :
    anyStep p (doorEventSteps s).du.doors (doorUpdate a b s).du.doors = true := by
  simp only [doorUpdate, drives, if_true, doorPeriodic, State.pruneFrozen_frame, State.raiseIf_frame]
  exact anyStep_withInputs hk (doorEventSteps_door hd) hp

theorem doorUpdate_lockFault
    (h : lockFailed (d.takeAll s.now s.du.queue) (s.doorAfter d (if k = 0 then a else b)) = true) :
    .doorLockFault ∈ (doorUpdate a b s).li.summary :=
  (mem_doorUpdate_summary drives _).mpr (.inr (.inr (.inl ⟨doorUpdate_anyStep drives hk hd h, rfl⟩)))

theorem doorUpdate_driveFault
    (h : driveFailed (d.takeAll s.now s.du.queue) (s.doorAfter d (if k = 0 then a else b)) = true) :
    .doorDriveFault ∈ (doorUpdate a b s).li.summary :=
  (mem_doorUpdate_summary drives _).mpr (.inr (.inl ⟨doorUpdate_anyStep drives hk hd h, rfl⟩))

theorem doorUpdate_obstructed
    (h : turnedBack (d.takeAll s.now s.du.queue) (s.doorAfter d (if k = 0 then a else b)) = true) :
    .doorObstructed ∈ (doorUpdate a b s).li.summary :=
  (mem_doorUpdate_summary drives _).mpr (.inl ⟨doorUpdate_anyStep drives hk hd h, rfl⟩)

end

/-- An update in LISTENING: each door takes no transition and the queue is emptied (R170). -/
theorem doorUpdate_listening {a b : DoorInputs} {s : State} (h : s.drives = false) :
    (doorUpdate a b s).du = { s.du with queue := [], doors := withInputs Door.listening a b s.du.doors } ∧
      (doorUpdate a b s).li = s.li := by
  simp [doorUpdate, h, doorListening]

@[simp] theorem doorUpdate_sched (a b : DoorInputs) (s : State) :
    (doorUpdate a b s).sched.door = some (s.now + 20000) := rfl

/-! ### The queue (R169, R170) -/

/-- Settles O46: an event joins the queue or is dropped, and an update in LISTENING empties it. -/
theorem doorEventsQueue : Obligations.DoorEventsQueue := by
  constructor
  · intro dt door kind s u hp hr ha hd
    have ready : u.takesDoorEvent door = true := by
      obtain ⟨d, hd, rfl⟩ := hd
      simpa [u, State.takesDoorEvent, State.ownsDoor, hr, ha] using ⟨d, hd, rfl⟩
    have e : exec (.doorEvent dt door kind) s = .next (doorEvent door kind u) := runWhen_ready hp ready
    have queue : u.du.queue = s.du.queue := by simp [u]
    rw [e]
    refine ⟨fun hq => ?_, fun hq => ?_⟩
    · rw [doorEvent, if_neg (by rw [queue]; exact Nat.not_le.mpr hq)]
    · rw [doorEvent, if_pos (by rw [queue]; exact hq)]
      rfl
  · intro dt a b s u hp hdue hl
    have rests : u.drives = false := by simp [u, State.drives, hl, StationState.drives]
    obtain ⟨hdu, hli⟩ := doorUpdate_listening (a := a) (b := b) rests
    refine ⟨doorUpdate a b u, runWhen_ready hp hdue, by rw [hdu], by rw [hli]; simp [u], doorUpdate_sched a b u, ?_, ?_⟩
    · rw [hdu, withInputs_length]; simp [u]
    · intro k d hk hd
      rw [hdu, withInputs_getElem? hk (by simpa [u] using hd)]
      simp only [Door.listening, Door.report]
      split <;> simp_all

/-! ### What the entries of the queue do to one door (R170, R173, R175, R176) -/

/-- BUTTON entries that name a RELEASED door wait as its open request (R173). -/
theorem Door.takeAll_of_released {d : Door} (now : Time) (q : List DoorEvent) (h : d.state = .released)
    (hq : ∃ e ∈ q, e.door = d.number ∧ e.kind = .button) : d.takeAll now q = { d with openRequest := true } := by
  have keeps (q : List DoorEvent) : ({ d with openRequest := true } : Door).takeAll now q = { d with openRequest := true } :=
    Door.takeAll_of_forall fun e _ _ => by
      simp only [Door.eventStep, h]
      split <;> simp_all
  induction q with
  | nil => obtain ⟨e, he, -⟩ := hq; cases he
  | cons e q ih =>
    rw [Door.takeAll, List.foldl_cons, ← Door.takeAll]
    by_cases hb : e.door = d.number ∧ e.kind = .button
    · have taken : d.take now e = { d with openRequest := true } := by
        simp [Door.take, Door.eventStep, h, hb]
      rw [taken, keeps]
    · have taken : d.take now e = d := by
        unfold Door.take
        split
        next hn => exact Door.eventStep_of_no_use now (fun hu => hb ⟨hn.symm, hu.2⟩) (by simp [h]) (by simp [h])
        · rfl
      rw [taken]
      obtain ⟨x, hx, hu⟩ := hq
      obtain rfl | hx := List.mem_cons.mp hx
      · exact absurd hu hb
      · exact ih ⟨x, hx, hu⟩

/-- A BEAM entry moves the dwell start of an OPEN door (R175). -/
theorem Door.take_beam {d : Door} (now time : Time) (h : d.state = .opened) :
    d.take now ⟨time, d.number, .beam⟩ = { d with dwellStart := laterDwell d.dwellStart time } := by
  simp only [Door.take, Door.eventStep, h, if_true]

/-- An EDGE entry that names a CLOSING door turns it back, and a door turned back takes no entry (R176). -/
theorem Door.takeAll_of_closing {d : Door} (now : Time) (q : List DoorEvent) (h : d.state = .closing)
    (hq : ∃ e ∈ q, e.door = d.number ∧ e.kind = .edge) : d.takeAll now q = d.toReversing now := by
  induction q with
  | nil => obtain ⟨e, he, -⟩ := hq; cases he
  | cons e q ih =>
    rw [Door.takeAll, List.foldl_cons, ← Door.takeAll]
    by_cases hb : e.door = d.number ∧ e.kind = .edge
    · have taken : d.take now e = d.toReversing now := by
        simp [Door.take, Door.eventStep, h, hb]
      rw [taken]
      exact Door.takeAll_of_idle now q (by simp [Door.toReversing]) (by simp [Door.toReversing]) (by simp [Door.toReversing])
    · have taken : d.take now e = d := by
        unfold Door.take
        split
        next hn => exact Door.eventStep_of_no_use now (by simp [h]) (by simp [h]) fun hu => hb ⟨hn.symm, hu.2⟩
        · rfl
      rw [taken]
      obtain ⟨x, hx, hu⟩ := hq
      obtain rfl | hx := List.mem_cons.mp hx
      · exact absurd hu hb
      · exact ih ⟨x, hx, hu⟩

/-- The entry that turns a CLOSING door back raises DOOR_OBSTRUCTED (R176). -/
theorem doorEventSteps_obstructed {s : State} {d : Door} (hd : d ∈ s.du.doors) (h : d.state = .closing)
    (hq : ∃ e ∈ s.du.queue, e.door = d.number ∧ e.kind = .edge) : .doorObstructed ∈ (doorEventSteps s).li.summary := by
  have fold (q : List DoorEvent) : ∀ t : State, d ∈ t.du.doors → (∃ e ∈ q, e.door = d.number ∧ e.kind = .edge) →
      .doorObstructed ∈ (q.foldl takeDoorEvent t).li.summary := by
    induction q with
    | nil => rintro t - ⟨e, he, -⟩; cases he
    | cons e q ih =>
      rintro t ht ⟨x, hx, hu⟩
      rw [List.foldl_cons]
      by_cases hb : e.door = d.number ∧ e.kind = .edge
      · have turns : turnedBack d (d.take t.now e) = true := by
          simp [turnedBack, Door.take, Door.eventStep, h, hb, Door.toReversing]
        exact mem_foldl_takeDoorEvent ((State.mem_raiseIf ..).mpr (.inl ⟨List.any_eq_true.mpr ⟨d, ht, turns⟩, rfl⟩))
      · obtain rfl | hx := List.mem_cons.mp hx
        · exact absurd hu hb
        refine ih _ ?_ ⟨x, hx, hu⟩
        have taken : d.take t.now e = d := by
          unfold Door.take
          split
          next hn => exact Door.eventStep_of_no_use _ (by simp [h]) (by simp [h]) fun hu => hb ⟨hn.symm, hu.2⟩
          · rfl
        simp only [takeDoorEvent, State.raiseIf_frame]
        exact List.mem_map.mpr ⟨d, ht, taken⟩
  exact fold _ s.emptyDoorQueue hd hq

/-! ### LOCKED doors (R171) -/

/-- A door update that is due answers the state after it. -/
theorem exec_doorUpdate {dt : Nat} {a b : DoorInputs} {s : State} (hp : s.powered = true) (hdue : (s.elapse dt).doorDue = true) :
    exec (.doorUpdate dt a b) s = .next (doorUpdate a b (s.elapse dt)) := runWhen_ready hp hdue

/-- Settles O47: the periodic step of a LOCKED door, which no entry touches. -/
theorem doorLockedStep : Obligations.DoorLockedStep := by
  intro dt k a b d s u i q may hp hdue hdrives hk hd hl
  have drives : u.drives = true := by simpa [u] using hdrives
  have hd' : u.du.doors[k]? = some d := by simpa [u] using hd
  have none : d.takeAll u.now u.du.queue = d := Door.takeAll_of_locked _ _ hl
  have door : (doorUpdate a b u).du.doors[k]? = some (d.lockedStep u.doorView i) := by
    rw [doorUpdate_door drives hk hd', State.doorAfter, none, Door.periodic, hl]
  have mayIff : u.doorView.mayUnlock d.number = true ↔ may := DoorView.mayUnlock_iff _ _
  refine ⟨_, exec_doorUpdate hp hdue, doorUpdate_queue drives, doorUpdate_sched .., fun hs => ⟨?_, ?_⟩, fun hs hm => ?_,
    fun hs hm => ?_⟩
  · refine doorUpdate_lockFault drives hk hd' ?_
    have step : d.lockedStep u.doorView i = d.toFault false := by simp [Door.lockedStep, hs]
    rw [State.doorAfter, none, Door.periodic, hl]
    change lockFailed d (d.lockedStep u.doorView i) = true
    rw [step]
    simp [lockFailed, hl, Door.toFault]
  · rw [door, Door.lockedStep, hs]
    rfl
  · rw [door, Door.lockedStep, hs, mayIff.mpr hm]
    rfl
  · rw [door, Door.lockedStep, hs, Bool.eq_false_iff.mpr fun h => hm (mayIff.mp h)]
    rfl

/-! ### Movements, OPEN and FAULT doors (R172 to R182) -/

/-- A door whose state has no use for entries makes its periodic step alone. -/
theorem State.doorAfter_of_idle {s : State} {d : Door} {i : DoorInputs} (hr : d.state ≠ .released) (ho : d.state ≠ .opened)
    (hc : d.state ≠ .closing) : s.doorAfter d i = d.periodic s.doorView i := by
  rw [State.doorAfter, Door.takeAll_of_idle _ _ hr ho hc]

/-- With an empty queue a door makes its periodic step alone. -/
theorem State.doorAfter_of_empty {s : State} {d : Door} {i : DoorInputs} (hq : s.du.queue = []) :
    s.doorAfter d i = d.periodic s.doorView i := by
  rw [State.doorAfter, hq]; rfl

theorem Door.orFault_of_passed {d : Door} {v : DoorView} {i : DoorInputs} (h : passed d.deadline v.now = true) :
    d.orFault v i = d.toFault i.lockSwitch := if_pos h

theorem Door.orFault_of_waiting {d : Door} {v : DoorView} {i : DoorInputs} (h : passed d.deadline v.now = false) :
    d.orFault v i = d := if_neg (by simp [h])

/-- What an OPEN door's step makes of it: closed, or its dwell start read from the beam (R175). -/
theorem Door.openedStep_eq {d : Door} (v : DoorView) (i : DoorInputs) :
    d.openedStep v i =
      let begun := if i.beam then some v.now else d.dwellStart
      if d.latch = false ∧ (d.number ∉ v.demand.release ∨ (d.number ∉ v.demand.opens ∧ v.demand.source ≠ .fallback ∧
          lasted begun v.dwell v.now = true)) then
        { d with state := .closing, drive := .closing, lockActuator := true, dwellStart := none
                 deadline := some (v.now + 4000000) }
      else { d with dwellStart := begun } := by
  have beam : d.beamRead v i = { d with dwellStart := if i.beam then some v.now else d.dwellStart } := by
    unfold Door.beamRead; split <;> simp_all
  have absent (l : List Nat) : l.contains d.number = false ↔ d.number ∉ l := by simp
  simp only [Door.openedStep, beam, Door.mayClose, Door.toClosing, Bool.and_eq_true, Bool.not_eq_true', Bool.or_eq_true,
    decide_eq_true_eq, absent, and_assoc]
  rfl

/-- What a RELEASED door's step makes of it (R173). -/
theorem Door.releasedStep_eq {d : Door} (v : DoorView) :
    d.releasedStep v =
      if d.number ∉ v.demand.release then d.toLocking v.now
      else if v.level = .kneeling ∧ v.demand.kneel.names d.side = true then d
      else if d.openRequest = true ∨ d.number ∈ v.demand.opens then d.toOpening v.now
      else d := by
  simp [Door.releasedStep, DoorView.heldShut]

/-- UNLOCKING: confirmed, failed or waiting (R172, R179). -/
theorem Door.unlockingStep_eq (d : Door) (v : DoorView) (i : DoorInputs) :
    (i.unlockSwitch = true → d.number ∈ v.demand.release → d.unlockingStep v i = d.toReleased) ∧
    (i.unlockSwitch = true → d.number ∉ v.demand.release → d.unlockingStep v i = d.toLocking v.now) ∧
    (i.unlockSwitch = false → passed d.deadline v.now = true → d.unlockingStep v i = d.toFault i.lockSwitch) ∧
    (i.unlockSwitch = false → passed d.deadline v.now = false → d.unlockingStep v i = d) := by
  refine ⟨fun hi hn => ?_, fun hi hn => ?_, fun hi hl => ?_, fun hi hl => ?_⟩ <;> rw [Door.unlockingStep, hi]
  · simp [hn]
  · simp [hn]
  · exact Door.orFault_of_passed hl
  · exact Door.orFault_of_waiting hl

/-- OPENING: confirmed, failed or waiting (R174, R179). -/
theorem Door.openingStep_eq (d : Door) (v : DoorView) (i : DoorInputs) :
    (i.openSwitch = true → d.openingStep v i = d.toOpened v.now) ∧
    (i.openSwitch = false → passed d.deadline v.now = true → d.openingStep v i = d.toFault i.lockSwitch) ∧
    (i.openSwitch = false → passed d.deadline v.now = false → d.openingStep v i = d) := by
  refine ⟨fun hi => ?_, fun hi hl => ?_, fun hi hl => ?_⟩ <;> rw [Door.openingStep, hi]
  · rfl
  · exact Door.orFault_of_passed hl
  · exact Door.orFault_of_waiting hl

/-- LOCKING: confirmed, failed or waiting (R178, R179). -/
theorem Door.lockingStep_eq (d : Door) (v : DoorView) (i : DoorInputs) :
    (i.lockSwitch = true → d.lockingStep v i = d.toLocked) ∧
    (i.lockSwitch = false → passed d.deadline v.now = true → d.lockingStep v i = d.toFault false) ∧
    (i.lockSwitch = false → passed d.deadline v.now = false → d.lockingStep v i = d) := by
  refine ⟨fun hi => ?_, fun hi hl => ?_, fun hi hl => ?_⟩ <;> rw [Door.lockingStep, hi]
  · rfl
  · exact (Door.orFault_of_passed hl).trans (by rw [hi])
  · exact Door.orFault_of_waiting hl

/-- CLOSING: turned back, closed, or failed (R176, R179). -/
theorem Door.closingStep_eq (d : Door) (v : DoorView) (i : DoorInputs) :
    (i.edge = true → d.closingStep v i = d.toReversing v.now) ∧
    (i.edge = false → i.closedSwitch = true → d.closingStep v i = d.toLocking v.now) ∧
    (i.edge = false → i.closedSwitch = false → passed d.deadline v.now = true →
      d.closingStep v i = d.toFault i.lockSwitch) := by
  refine ⟨fun hi => ?_, fun hi hc => ?_, fun hi hc hl => ?_⟩ <;> rw [Door.closingStep, hi]
  · rfl
  · rw [hc]; rfl
  · rw [hc]; exact Door.orFault_of_passed hl

/-- REVERSING: open, with its latch at the third obstruction, failed or waiting (R177, R179). -/
theorem Door.reversingStep_eq (d : Door) (v : DoorView) (i : DoorInputs) :
    (i.openSwitch = true → d.reversingStep v i = { d.toOpened v.now with latch := d.latch || decide (3 ≤ d.count) }) ∧
    (i.openSwitch = false → passed d.deadline v.now = true → d.reversingStep v i = d.toFault i.lockSwitch) ∧
    (i.openSwitch = false → passed d.deadline v.now = false → d.reversingStep v i = d) := by
  refine ⟨fun hi => ?_, fun hi hl => ?_, fun hi hl => ?_⟩ <;> rw [Door.reversingStep, hi]
  · rfl
  · exact Door.orFault_of_passed hl
  · exact Door.orFault_of_waiting hl

/-- A door just turned back has its deadline ahead of it (R176). -/
theorem not_passed_later (now : Time) : passed (some (later now Config.reversingDeadline)) now = false := by
  have h : (now - later now Config.reversingDeadline).toInt = -4150000 := by
    have e : now - later now Config.reversingDeadline = -(4150000 : BitVec 32) := by
      simp only [later, Config.reversingDeadline]
      bv_omega
    rw [e]; decide
  simp [passed, reached, h]

/-- Entries that act on none of the doors' states leave an update as it is with an empty queue. -/
theorem doorAfter_of_no_use {s : State} {d : Door} {i : DoorInputs}
    (h : ∀ e ∈ s.du.queue, e.door = d.number → ¬(d.state = .released ∧ e.kind = .button) ∧
      ¬(d.state = .opened ∧ e.kind = .beam) ∧ ¬(d.state = .closing ∧ e.kind = .edge)) :
    s.doorAfter d i = d.periodic s.doorView i := by
  rw [State.doorAfter, Door.takeAll_of_forall fun e he hn => ?_]
  obtain ⟨hr, ho, hc⟩ := h e he hn
  exact Door.eventStep_of_no_use _ hr ho hc

/-- Settles O48: the periodic step of each state, after what the entries of the queue make of the door. -/
theorem doorMovesComplete : Obligations.DoorMovesComplete := by
  intro dt k a b d s u i named hp hdue hdrives hk hd
  have drives : u.drives = true := by simpa [u] using hdrives
  have hd' : u.du.doors[k]? = some d := by simpa [u] using hd
  have queue : u.du.queue = s.du.queue := by simp [u]
  have run : exec (.doorUpdate dt a b) s = .next (doorUpdate a b u) := exec_doorUpdate hp hdue
  have run' : exec (.doorUpdate dt a b) { s with du := { s.du with queue := [] } } =
      .next (doorUpdate a b { u with du := { u.du with queue := [] } }) := by
    have e : ({ s with du := { s.du with queue := [] } } : State).elapse dt = { u with du := { u.du with queue := [] } } := by
      simp [u, State.elapse, hp]
    rw [← e]
    exact exec_doorUpdate hp (by rw [e]; exact hdue)
  have level : u.doorView.level = s.lu.level := by simp [u, State.doorView]
  have dwell : u.doorView.dwell = s.sc.prof.dwellMs * 1000 := by simp [u, State.doorView]
  have door : (doorUpdate a b u).du.doors[k]? = some (u.doorAfter d i) := doorUpdate_door drives hk hd'
  have lockFault (h : lockFailed (d.takeAll u.now u.du.queue) (u.doorAfter d i) = true) :
      .doorLockFault ∈ (doorUpdate a b u).li.summary := doorUpdate_lockFault drives hk hd' h
  have driveFault (h : driveFailed (d.takeAll u.now u.du.queue) (u.doorAfter d i) = true) :
      .doorDriveFault ∈ (doorUpdate a b u).li.summary := doorUpdate_driveFault drives hk hd' h
  have obstructed (h : turnedBack (d.takeAll u.now u.du.queue) (u.doorAfter d i) = true) :
      .doorObstructed ∈ (doorUpdate a b u).li.summary := doorUpdate_obstructed drives hk hd' h
  have early (hs : d.state = .closing) (hq : ∃ e ∈ s.du.queue, e.door = d.number ∧ e.kind = .edge) :
      .doorObstructed ∈ (doorUpdate a b u).li.summary :=
    (mem_doorUpdate_summary drives _).mpr
      (.inr (.inr (.inr (doorEventSteps_obstructed (List.mem_of_getElem? hd') hs (queue ▸ hq)))))
  have door' : (doorUpdate a b { u with du := { u.du with queue := [] } }).du.doors[k]? = some (d.periodic u.doorView i) :=
    doorUpdate_door (s := { u with du := { u.du with queue := [] } }) drives hk hd'
  have same : u.doorView.now = u.now := rfl
  have demand : u.doorView.demand = u.effectiveDemand := rfl
  clear_value u i
  refine ⟨fun hs => ?_, fun hs => ?_, fun hs => ?_, ?_, ?_, ?_, ?_, ?_, ?_, ?_, ?_⟩
  · have idle : d.takeAll u.now u.du.queue = d := Door.takeAll_of_idle _ _ (by simp [hs]) (by simp [hs]) (by simp [hs])
    have step : u.doorAfter d i = d.unlockingStep u.doorView i := by rw [State.doorAfter, idle, Door.periodic, hs]
    rw [step] at door lockFault
    rw [idle] at lockFault
    obtain ⟨released, locking, fault, waits⟩ := d.unlockingStep_eq u.doorView i
    refine ⟨_, _, run, door, fun hi hn => ?_, fun hi hn => ?_, fun hi hl => ?_, fun hi hl => waits hi hl⟩
    · rw [released hi hn]; exact ⟨rfl, rfl, rfl⟩
    · rw [locking hi hn]; exact ⟨rfl, rfl, rfl⟩
    · rw [fault hi hl] at lockFault ⊢
      exact ⟨rfl, rfl, lockFault (by simp [lockFailed, hs, Door.toFault])⟩
  · have idle : d.takeAll u.now u.du.queue = d := Door.takeAll_of_idle _ _ (by simp [hs]) (by simp [hs]) (by simp [hs])
    have step : u.doorAfter d i = d.openingStep u.doorView i := by rw [State.doorAfter, idle, Door.periodic, hs]
    rw [step] at door driveFault
    rw [idle] at driveFault
    obtain ⟨opened, fault, waits⟩ := d.openingStep_eq u.doorView i
    refine ⟨_, _, run, door, fun hi => ?_, fun hi hl => ?_, fun hi hl => waits hi hl⟩
    · rw [opened hi]; exact ⟨rfl, rfl, rfl⟩
    · rw [fault hi hl] at driveFault ⊢
      exact ⟨rfl, rfl, driveFault (by simp [driveFailed, hs, Door.toFault])⟩
  · have idle : d.takeAll u.now u.du.queue = d := Door.takeAll_of_idle _ _ (by simp [hs]) (by simp [hs]) (by simp [hs])
    have step : u.doorAfter d i = d.lockingStep u.doorView i := by rw [State.doorAfter, idle, Door.periodic, hs]
    rw [step] at door lockFault
    rw [idle] at lockFault
    obtain ⟨locked, fault, waits⟩ := d.lockingStep_eq u.doorView i
    refine ⟨_, _, run, door, fun hi => ?_, fun hi hl => ?_, fun hi hl => waits hi hl⟩
    · rw [locked hi]; exact ⟨rfl, rfl, rfl⟩
    · rw [fault hi hl] at lockFault ⊢
      exact ⟨rfl, lockFault (by simp [lockFailed, hs, Door.toFault])⟩
  · intro hs hq shut
    have step : u.doorAfter d i = d.releasedStep u.doorView := by
      rw [State.doorAfter_of_empty (queue.trans hq), Door.periodic, hs]
    rw [step, Door.releasedStep_eq, level, demand] at door
    refine ⟨_, _, run, door, fun hn => ?_, fun hn hsh => ?_, fun hn hsh ho => ?_, fun hn hsh ho hno => ?_⟩
    · rw [if_pos hn]; exact ⟨rfl, rfl, rfl⟩
    · rw [if_neg (not_not.mpr hn), if_pos hsh]
    · rw [if_neg (not_not.mpr hn), if_neg hsh, if_pos ho]; exact ⟨rfl, rfl, rfl, rfl⟩
    · rw [if_neg (not_not.mpr hn), if_neg hsh, if_neg (by simp [ho, hno])]
  · intro hs hq
    have empty : d.takeAll u.now u.du.queue = d := by rw [queue, hq]; rfl
    have step : u.doorAfter d i = d.closingStep u.doorView i := by rw [State.doorAfter, empty, Door.periodic, hs]
    rw [step] at door obstructed
    rw [empty] at obstructed
    obtain ⟨turned, locking, -⟩ := d.closingStep_eq u.doorView i
    refine ⟨_, _, run, door, fun hi => ?_, fun hi hc => ?_⟩
    · rw [turned hi] at obstructed ⊢
      exact ⟨rfl, rfl, rfl, rfl, rfl, obstructed (by simp [turnedBack, hs, Door.toReversing])⟩
    · rw [locking hi hc]; exact ⟨rfl, rfl, rfl⟩
  · intro hs hq hi
    have step : u.doorAfter d i = d.reversingStep u.doorView i := by
      rw [State.doorAfter_of_empty (queue.trans hq), Door.periodic, hs]
    rw [step, (d.reversingStep_eq u.doorView i).1 hi] at door
    exact ⟨_, _, run, door, rfl, rfl, rfl, rfl, by simp⟩
  · intro start hs hstart begun closes
    have taken : d.takeAll u.now u.du.queue = { d with dwellStart := start } := by
      rw [queue]
      obtain ⟨hq, rfl⟩ | ⟨e, hq, rfl⟩ := hstart
      · rw [hq]; rfl
      · rw [hq]
        exact Door.take_beam u.now e hs
    have step : u.doorAfter d i = ({ d with dwellStart := start } : Door).openedStep u.doorView i := by
      rw [State.doorAfter, taken, Door.periodic, hs]
    rw [step, Door.openedStep_eq, dwell] at door
    exact ⟨_, _, run, door, fun hc => if_pos hc, fun hc => if_neg hc⟩
  · intro hs hq shut
    have taken : d.takeAll u.now u.du.queue = { d with openRequest := true } := by
      rw [queue]; exact Door.takeAll_of_released _ _ hs hq
    have step : u.doorAfter d i = ({ d with openRequest := true } : Door).releasedStep u.doorView := by
      rw [State.doorAfter, taken, Door.periodic, hs]
    rw [step, Door.releasedStep_eq, level, demand] at door
    refine ⟨_, _, run, door, fun hn => ?_, fun hn hsh => ?_, fun hn hsh => ?_⟩
    · rw [if_pos hn]; exact ⟨rfl, rfl⟩
    · rw [if_neg (not_not.mpr hn), if_pos hsh]
    · rw [if_neg (not_not.mpr hn), if_neg hsh, if_pos (.inl rfl)]; exact ⟨rfl, rfl, rfl⟩
  · intro hs hq
    have taken : d.takeAll u.now u.du.queue = d.toReversing u.now := by
      rw [queue]; exact Door.takeAll_of_closing _ _ hs hq
    have step : u.doorAfter d i = (d.toReversing u.now).reversingStep u.doorView i := by
      rw [State.doorAfter, taken]; rfl
    rw [step] at door
    obtain ⟨opened, -, waits⟩ := (d.toReversing u.now).reversingStep_eq u.doorView i
    have count : ((d.toReversing u.now).reversingStep u.doorView i).count = d.count + 1 := by
      cases hi : i.openSwitch with
      | true => rw [opened hi]; rfl
      | false => rw [waits hi (not_passed_later _)]; rfl
    refine ⟨_, _, run, door, count, early hs hq, fun hi => ?_, fun hi => ?_⟩
    · rw [waits hi (not_passed_later _)]; exact ⟨rfl, rfl, rfl, rfl⟩
    · rw [opened hi]; exact ⟨rfl, rfl, rfl, rfl, by simp [Door.toReversing]⟩
  · intro huse
    refine ⟨_, _, run, run', ?_⟩
    rw [door, door', doorAfter_of_no_use (queue ▸ huse)]
  · intro hs
    have step : u.doorAfter d i = d.report i.lockSwitch := by
      rw [State.doorAfter_of_idle (by simp [hs]) (by simp [hs]) (by simp [hs]), Door.periodic, hs]
    rw [step, Door.report, if_pos hs] at door
    exact ⟨_, run, door⟩

/-! ### The door times (R175, R177, R179) -/

/-- The drive stop of a REVERSING door ends with the drive set to OPEN (R177). -/
theorem driveStopEnd_door {s : State} {k : Nat} {d : Door} (hd : s.du.doors[k]? = some d) (ho : d.stopOver s.now = true) :
    (driveStopEnd d.number s).du.doors[k]? = some d.driveOpen := by
  simp [driveStopEnd, hd, ho]

/-- A passed deadline takes every movement that does not confirm to FAULT (R179). -/
theorem Door.periodic_fault {d : Door} {v : DoorView} {i : DoorInputs} (hl : passed d.deadline v.now = true)
    (h : d.state = .unlocking ∧ i.unlockSwitch = false ∨ d.state = .opening ∧ i.openSwitch = false ∨
      d.state = .closing ∧ i.edge = false ∧ i.closedSwitch = false ∨
      d.state = .reversing ∧ i.openSwitch = false ∨ d.state = .locking ∧ i.lockSwitch = false) :
    d.periodic v i = d.toFault i.lockSwitch := by
  rw [Door.periodic]
  obtain ⟨hs, hi⟩ | ⟨hs, hi⟩ | ⟨hs, hi, hc⟩ | ⟨hs, hi⟩ | ⟨hs, hi⟩ := h <;> rw [hs]
  · exact (d.unlockingStep_eq v i).2.2.1 hi hl
  · exact (d.openingStep_eq v i).2.1 hi hl
  · exact (d.closingStep_eq v i).2.2 hi hc hl
  · exact (d.reversingStep_eq v i).2.1 hi hl
  · rw [hi]; exact (d.lockingStep_eq v i).2.1 hi hl

/-- Settles O49: the drive-stop end is an effect of its own, and the other two times are due door updates. -/
theorem doorTimes : Obligations.DoorTimes := by
  intro dt k a b d s u i hp hdrives haxle hk hd
  have drives : u.drives = true := by simpa [u] using hdrives
  have hd' : u.du.doors[k]? = some d := by simpa [u] using hd
  have mem : d ∈ u.du.doors := List.mem_of_getElem? hd'
  have door : (doorUpdate a b u).du.doors[k]? = some (u.doorAfter d i) := doorUpdate_door drives hk hd'
  refine ⟨fun e hs he hpast => ?_, fun hdue hq hs hlatch hbeam hlast hopens hsrc => ?_, fun hdue hq hl hmove => ?_⟩
  · have ended : d.stopOver u.now = true := by
      simpa only [Door.stopOver, hs, he, passed, reached, decide_true, Bool.true_and, decide_eq_true_eq] using hpast
    have ready : u.driveStopDue d.number = true := by
      simp only [State.driveStopDue, drives, Bool.true_and, Bool.and_eq_true, List.any_eq_true]
      exact ⟨by simpa [u] using haxle, d, mem, by simp [ended]⟩
    exact ⟨_, runWhen_ready hp ready, driveStopEnd_door hd' ended⟩
  · have dwell : u.doorView.dwell = s.sc.prof.dwellMs * 1000 := by simp [u, State.doorView]
    have ready : u.dwellDue d.number = true := by
      simp only [State.dwellDue, hdue, Bool.true_and, List.any_eq_true]
      exact ⟨d, mem, by simp [hs, u]; exact hlast⟩
    have step : u.doorAfter d i = d.openedStep u.doorView i := by
      rw [State.doorAfter_of_empty (by simpa [u] using hq), Door.periodic, hs]
    rw [step, Door.openedStep_eq, dwell] at door
    refine ⟨_, _, runWhen_ready hp ready, door, ?_⟩
    rw [if_pos ⟨hlatch, .inr ⟨hopens, hsrc, by rw [hbeam]; exact hlast⟩⟩]
    exact ⟨rfl, rfl, rfl⟩
  · have ready : u.doorDeadlineDue d.number = true := by
      simp only [State.doorDeadlineDue, hdue, Bool.true_and, List.any_eq_true]
      exact ⟨d, mem, by simp [hl]⟩
    have queue : u.du.queue = [] := by simpa [u] using hq
    have empty : d.takeAll u.now u.du.queue = d := by rw [queue]; rfl
    have step : u.doorAfter d i = d.toFault i.lockSwitch := by
      rw [State.doorAfter_of_empty queue]; exact Door.periodic_fault hl hmove
    have lockFault (h : lockFailed d (u.doorAfter d i) = true) : .doorLockFault ∈ (doorUpdate a b u).li.summary :=
      doorUpdate_lockFault drives hk hd' (by rw [empty]; exact h)
    have driveFault (h : driveFailed d (u.doorAfter d i) = true) : .doorDriveFault ∈ (doorUpdate a b u).li.summary :=
      doorUpdate_driveFault drives hk hd' (by rw [empty]; exact h)
    have run : exec (.doorDeadlinePassed dt d.number a b) s = .next (doorUpdate a b u) := runWhen_ready hp ready
    rw [step] at door lockFault driveFault
    refine ⟨_, _, run, door, rfl, rfl, rfl, rfl, rfl, rfl, rfl, rfl, fun hs => lockFault ?_, fun hs => driveFault ?_⟩
    · obtain hs | hs := hs <;> simp [lockFailed, hs, Door.toFault]
    · obtain hs | hs | hs := hs <;> simp [driveFailed, hs, Door.toFault]

end Sys2Proof.Machine
end

section
/-! PROOF. The stop hold (R132 to R147): one update from each of the five hold states, and the three hold times. -/

namespace Sys2Proof.Machine

/-! ### What an update makes of the hold unit (R133 to R141) -/

/-- The three time forms on a held start (R3 b). -/
theorem lasted_some (t now : Time) (limit : Nat) : lasted (some t) limit now = true ↔ limit ≤ (now - t).toNat :=
  decide_eq_true_iff

/-- The confirm start and what it makes of an update in APPLYING (R134). -/
theorem State.holdConfirmed_iff {s : State} (h : s.hu.state = .applying) : s.holdConfirmed = true ↔
    s.bothConfirm = true ∧ 100000 ≤ (s.now - s.hu.confirmStart.getD s.now).toNat := by
  simp only [State.holdConfirmed, h, decide_true, Bool.true_and, Bool.and_eq_true, startOr, lasted_some]
  rfl

/-- Only APPLYING confirms and only APPLYING fails (R134, R137). -/
theorem State.applyFails_of_not_applying {s : State} (h : s.hu.state ≠ .applying) : s.applyFails = false := by
  simp [State.applyFails, h]

theorem State.applyFails_iff {s : State} (h : s.hu.state = .applying) : s.applyFails = true ↔
    s.hu.latch = false ∧ s.holdConfirmed = false ∧ lasted s.hu.applyStart 1000000 s.now = true := by
  simp [State.applyFails, h, and_assoc, Config.applyFaultTime]

/-- An update whose fault check does not act changes the hold unit and its next time alone (R133, R137). -/
theorem holdUpdate_of_not_fails {s : State} (h : s.applyFails = false) : holdUpdate s = { s with
    hu := s.holdAfter, sched := { s.sched with hold := some (s.now + 10000) } } := by
  simp only [holdUpdate, h, State.raiseIf_false]
  rfl

/-- The unit as the measure leaves it where the fault check does not act (R133, R134). -/
theorem State.holdMeasured_of_not_fails {s : State} (h : s.applyFails = false) : s.holdMeasured =
    { s.hu with request := some s.effectiveDemand.hold, confirmStart := s.confirmStartAfter } := by
  simp [State.holdMeasured, h]

theorem State.confirmStartAfter_of_not_applying {s : State} (h : s.hu.state ≠ .applying) :
    s.confirmStartAfter = s.hu.confirmStart := if_neg h


section
variable {s : State} {h : HoldUnit} {release : Bool}

theorem State.holdTransition_off (hs : s.hu.state = .off) : s.holdTransition h release =
    if s.effectiveDemand.hold = .hold ∧ s.standstill = true then h.toApplying s.now else h := by
  rw [State.holdTransition, hs]

theorem State.holdTransition_applying (hs : s.hu.state = .applying) : s.holdTransition h release =
    if release then h.toReleasing s.now else if s.holdConfirmed then h.toHeld else h := by
  rw [State.holdTransition, hs]

theorem State.holdTransition_held (hs : s.hu.state = .held) : s.holdTransition h release =
    if s.effectiveDemand.hold = .none then { h with state := .releasePending } else h := by
  rw [State.holdTransition, hs]

theorem State.holdTransition_pending (hs : s.hu.state = .releasePending) : s.holdTransition h release =
    if s.effectiveDemand.hold = .hold then h.toHeld else if release then h.toReleasing s.now else h := by
  rw [State.holdTransition, hs]

theorem State.holdTransition_releasing (hs : s.hu.state = .releasing) : s.holdTransition h release =
    if s.effectiveDemand.hold = .hold then h.toApplying s.now
    else if lasted s.hu.releaseStart 200000 s.now then { h with state := .off, releaseStart := none } else h := by
  rw [State.holdTransition, hs]
  rfl

end

/-- The request stored stays as it is through the transition (R133). -/
theorem State.holdTransition_request (s : State) (h : HoldUnit) (q : Option HoldRequest) (b : Bool) :
    s.holdTransition { h with request := q } b = { s.holdTransition h b with request := q } := by
  unfold State.holdTransition HoldUnit.toApplying HoldUnit.toReleasing HoldUnit.toHeld
  (repeat' split) <;> rfl

/-- The hold unit after an update in ACTIVE or ISOLATED whose fault check does not act: the one transition, on the unit with the
confirmation measure made (R134 to R141). -/
theorem State.holdAfter_of_not_fails {s : State} (drives : s.drives = true) (h : s.applyFails = false) : s.holdAfter =
    { s.holdTransition { s.hu with confirmStart := s.confirmStartAfter } (s.releaseConditions s.hu.latch) with
      request := some s.effectiveDemand.hold } := by
  rw [State.holdAfter, if_pos drives, State.holdMeasured_of_not_fails h, ← State.holdTransition_request]

/-- Settles O38: the one transition of each hold state, on the unit as the measure left it. -/
theorem holdTransitions : Obligations.HoldTransitions := by
  intro dt s u q after apply release free hp hdue hdrives
  have hu : u.hu = s.hu := by simp [u]
  have drives : u.drives = true := by simpa [u] using hdrives
  have run (h : u.applyFails = false) : exec (.holdUpdate dt) s = .next (after
      (u.holdTransition { u.hu with confirmStart := u.confirmStartAfter } (u.releaseConditions u.hu.latch))) := by
    have e : exec (.holdUpdate dt) s = .next (holdUpdate u) := runWhen_ready hp hdue
    rw [e, holdUpdate_of_not_fails h, State.holdAfter_of_not_fails drives h]
  have idle (hs : s.hu.state ≠ .applying) : exec (.holdUpdate dt) s =
      .next (after (u.holdTransition s.hu (u.releaseConditions s.hu.latch))) := by
    rw [run (State.applyFails_of_not_applying (hu ▸ hs)), State.confirmStartAfter_of_not_applying (hu ▸ hs), hu]
  have releases (hf : free) : u.releaseConditions s.hu.latch = true := by
    rw [State.releaseConditions_iff]; simpa [free, u] using hf
  have stays (hf : ¬free) : u.releaseConditions s.hu.latch = false := by
    rw [Bool.eq_false_iff]
    exact fun h => hf (by simpa [free, u] using (State.releaseConditions_iff _ _).mp h)
  have none_ne (h : q = .none) : q ≠ .hold := by rw [h]; decide
  refine ⟨fun hs => ?_, fun hs => ?_, fun hs => ?_, fun hs => ?_, fun hs => ?_, rfl, rfl⟩
  · rw [idle (by simp [hs]), State.holdTransition_off (hu ▸ hs)]
    refine ⟨fun hq hst => by rw [if_pos ⟨hq, hst⟩]; rfl, fun hq => ?_⟩
    rw [if_neg fun h => ?_]
    obtain hq | hq := hq
    · exact none_ne hq h.1
    · rw [hq] at h; cases h.2
  · intro began confirmed hchk
    have hsu : u.hu.state = .applying := hu ▸ hs
    have confirmed_iff : u.holdConfirmed = true ↔ confirmed := by
      rw [State.holdConfirmed_iff hsu, hu]
    have fails : u.applyFails = false := by
      rw [Bool.eq_false_iff, ne_eq, State.applyFails_iff hsu, hu]
      rintro ⟨hlatch, hconf, hlast⟩
      obtain h | h | h := hchk
      · rw [hlatch] at h; cases h
      · rw [confirmed_iff.mpr h] at hconf; cases hconf
      · rw [hlast] at h; cases h
    have start : u.confirmStartAfter = if u.bothConfirm then some began else none := by
      rw [State.confirmStartAfter, if_pos hsu, hu]; rfl
    rw [run fails, State.holdTransition_applying hsu, hu, start]
    refine ⟨fun hf => ?_, fun hf hc => ?_, fun hf hc => ?_⟩
    · rw [releases hf]; rfl
    · rw [stays hf, confirmed_iff.mpr hc]; rfl
    · rw [stays hf, Bool.eq_false_iff.mpr (mt confirmed_iff.mp hc)]; rfl
  · rw [idle (by simp [hs]), State.holdTransition_held (hu ▸ hs)]
    exact ⟨fun hq => by rw [if_pos hq], fun hq => by rw [if_neg fun h => none_ne h hq]⟩
  · rw [idle (by simp [hs]), State.holdTransition_pending (hu ▸ hs)]
    refine ⟨fun hq => by rw [if_pos hq]; rfl, fun hf => ?_, fun hq hf => ?_⟩
    · rw [if_neg (none_ne hf.1), releases hf]; rfl
    · rw [if_neg (none_ne hq), stays hf]; rfl
  · rw [idle (by simp [hs]), State.holdTransition_releasing (hu ▸ hs), hu]
    refine ⟨fun hq => by rw [if_pos hq]; rfl, fun hq hl => ?_, fun hq hl => ?_⟩
    · rw [if_neg (none_ne hq), if_pos hl]
    · rw [if_neg (none_ne hq), hl]; rfl

/-- Settles O39: each of the three times is a due hold update, read from its own start. -/
theorem holdTimes : Obligations.HoldTimes := by
  intro dt s u q hp hdue
  have hu : u.hu = s.hu := by simp [u]
  refine ⟨fun hs hboth hlast hor => ?_, fun hs hlatch hboth hlast => ?_, fun hs hdr hlast hq => ?_⟩
  · have hsu : u.hu.state = .applying := hu ▸ hs
    obtain ⟨start, hstart⟩ : ∃ x, s.hu.confirmStart = some x := by
      cases h : s.hu.confirmStart with
      | none => rw [h] at hlast; cases hlast
      | some x => exact ⟨x, rfl⟩
    have confirmed : u.holdConfirmed = true := by
      rw [State.holdConfirmed_iff hsu, hu, hstart]
      exact ⟨hboth, (lasted_some ..).mp (hstart ▸ hlast)⟩
    have fails : u.applyFails = false := by
      rw [Bool.eq_false_iff, ne_eq, State.applyFails_iff hsu, confirmed]
      rintro ⟨-, h, -⟩; cases h
    have ready : u.confirmDue = true := by rw [State.confirmDue, hdue, confirmed]; rfl
    have after : u.holdAfter = u.holdMeasured.toHeld := by
      rw [State.holdAfter]
      split
      next hd =>
        have stays : u.releaseConditions u.holdMeasured.latch = false := by
          rw [Bool.eq_false_iff, ne_eq, State.releaseConditions_iff]
          rintro ⟨h1, h2, h3, h4⟩
          have h4 := State.latch_of_holdMeasured h4
          simp only [u, State.elapse_frame, State.elapse_drives] at hd h3 h4
          obtain h | h | h | h | h := hor
          · rw [hd] at h; cases h
          · rw [show q = .none from h1] at h; cases h
          · rw [show u.allDoorsLocked = true from h2] at h; cases h
          · exact h h3
          · rw [h4] at h; cases h
        rw [State.holdTransition_applying hsu, stays, confirmed]; rfl
      · rw [State.holdListening, confirmed]; rfl
    refine ⟨_, runWhen_ready hp ready, ?_, ?_, ?_, ?_, ?_⟩
    · rw [holdUpdate_hu, after]; rfl
    · rw [holdUpdate_hu, after]; rfl
    · rw [holdUpdate_hu, after, State.holdMeasured_of_not_fails fails, hu]; rfl
    · rw [holdUpdate_hu, after, State.holdMeasured_of_not_fails fails, hu]; rfl
    · rw [holdUpdate_of_not_fails fails]; simp [u]
  · have hsu : u.hu.state = .applying := hu ▸ hs
    have unconfirmed : u.holdConfirmed = false := by
      rw [Bool.eq_false_iff, ne_eq, State.holdConfirmed_iff hsu, hboth]
      rintro ⟨h, -⟩; cases h
    have fails : u.applyFails = true := by
      rw [State.applyFails_iff hsu, hu]
      exact ⟨hlatch, unconfirmed, hlast⟩
    have latched : u.holdMeasured.latch = true := by simp [State.holdMeasured, fails]
    have after : u.holdAfter = u.holdMeasured := by
      have stays : u.releaseConditions u.holdMeasured.latch = false := by
        rw [Bool.eq_false_iff, ne_eq, State.releaseConditions_iff, latched]
        rintro ⟨-, -, -, h⟩; cases h
      rw [State.holdAfter, State.holdTransition_applying hsu, stays, State.holdListening, unconfirmed]
      split <;> rfl
    refine ⟨_, runWhen_ready hp (by rw [State.applyFaultDue, hdue, fails]; rfl), ?_, ?_, ?_, ?_⟩
    · rw [holdUpdate_hu, after]; exact hsu
    · rw [holdUpdate_hu, after]; exact latched
    · rw [holdUpdate_hu, after, State.holdMeasured_valve, hu]
    · simp [holdUpdate, fails, u]
  · have hsu : u.hu.state = .releasing := hu ▸ hs
    have fails : u.applyFails = false := State.applyFails_of_not_applying (by rw [hsu]; decide)
    have drives : u.drives = true := by simpa [u] using hdr
    have last : lasted u.hu.releaseStart 200000 u.now = true := by rw [hu]; exact hlast
    have ready : u.releaseDue = true := by
      rw [State.releaseDue, hdue, hsu, show lasted u.hu.releaseStart Config.releaseTime u.now = true from last]; rfl
    have no : u.effectiveDemand.hold ≠ .hold := by change q ≠ .hold; rw [hq]; decide
    have hold : (holdUpdate u).hu = { u.holdMeasured with state := .off, releaseStart := none } := by
      rw [holdUpdate_hu, State.holdAfter, if_pos drives, State.holdTransition_releasing hsu, if_neg no, if_pos last]
    refine ⟨_, runWhen_ready hp ready, by rw [hold], ?_, by rw [hold]⟩
    rw [hold]
    change u.holdMeasured.valve = _
    rw [State.holdMeasured_valve, hu]

end Sys2Proof.Machine
end

section
/-! PROOF. Following-axle steering (R70 to R95): one update from each steer state, its command and limit, and the three times. -/

namespace Sys2Proof.Machine

/-! ### What the tracking check leaves (R89, R90) -/

/-- The tracking check writes its start, the STEER latch and the summary alone. -/
theorem trackingCheck_writes (s : State) : ∃ start latch summary, trackingCheck s = { s with
    su := { s.su with trackStart := start, latch := latch }, li := { s.li with summary := summary } } := by
  unfold trackingCheck
  (repeat' split) <;> exact ⟨_, _, _, rfl⟩

/-- No tracking excess stands (R89). -/
def State.trackCleared (s : State) : State := { s with su := { s.su with trackStart := none } }

/-- With no excess the check clears its start alone (R89). -/
theorem trackingCheck_of_onTrack {s : State} (h : s.offTrack = false) : trackingCheck s = s.trackCleared := by
  simp [trackingCheck, h, State.trackCleared]

/-- What a reading of a joint takes from a STATUS record is not in its latches. -/
theorem trackingCheck_jointRecord (n : Fin 8) (s : State) : (trackingCheck s).jointRecord n = s.jointRecord n := by
  obtain ⟨a, b, m, e⟩ := trackingCheck_writes s
  rw [e]
  simp only [State.jointRecord, State.freshStatus]
  by_cases hn : n = s.sc.strap
  · rw [if_pos hn, if_pos hn]
    change (match (if s.runs then some _ else none : Option StatusRec) with | some r => _ | none => _) = _
    cases s.runs <;> rfl
  · rw [if_neg hn, if_neg hn]
    rfl

/-- The transition of an update reads the path, the limit and the heading as the update finds them. -/
@[simp] theorem trackingCheck_readings (r : AxleRec) (s : State) :
    (trackingCheck s).axlePosition r = s.axlePosition r ∧ (trackingCheck s).steerLimit = s.steerLimit ∧
    (trackingCheck s).sectionHeading r = s.sectionHeading r ∧ (trackingCheck s).channel 6 = s.channel 6 := by
  have angles (l : List (Fin 8 × JointRec)) : l.map (fun j => ((trackingCheck s).jointAngle j.1).getD 0) =
      l.map (fun j => (s.jointAngle j.1).getD 0) := by
    simp [State.jointAngle, trackingCheck_jointRecord]
  have position : (trackingCheck s).position = s.position := funext fun _ => by simp [State.position]
  refine ⟨by simp [State.axlePosition, position], ?_, ?_, by simp [State.channel]⟩
  · obtain ⟨a, b, m, e⟩ := trackingCheck_writes s
    rw [e]; rfl
  · simp [State.sectionHeading, State.psiNewest, State.angleSum, angles]

/-! ### One update (R71) -/

section
variable {s : State} {r : AxleRec} (ho : s.own.axle? = some r)
include ho

/-- An update leaves the unit of one transition, trims the queue, and moves its next time on (R67, R71). -/
theorem steeringUpdate_parts :
    (steeringUpdate s).pu = { s.pu with queue := trim (s.axlePosition r) s.pu.queue } ∧
    (steeringUpdate s).li = (trackingCheck s).li ∧
    (steeringUpdate s).sched = { s.sched with steering := some (s.now + 5000) } := by
  simp only [steeringUpdate, ho, steerStep, State.trimQueue, trackingCheck_readings, trackingCheck_frame]
  exact ⟨trivial, trivial, rfl⟩

theorem steeringUpdate_transition : (steeringUpdate s).su = ((trackingCheck s).steerTransition r
    ((trackingCheck s).followConditions r) (lookupAt (s.axlePosition r) s.pu.queue)).drive := by
  simp only [steeringUpdate_su ho, trackingCheck_readings, trackingCheck_frame]

end

/-! ### The transition from each state (R75 to R81) -/

section
variable {s : State} {r : AxleRec}

theorem State.steerTransition_released {b : Bool} {f : Lookup} (hs : s.su.state = .lockRelease)
    (hl : lasted s.su.releaseStart 100000 s.now = true) : s.steerTransition r b f =
      match b, f with
      | true, .value t => s.toFollowing r t
      | true, .brk => s.toHolding
      | _, _ => s.toCentring := by
  unfold State.steerTransition
  rw [hs]
  exact if_pos hl

theorem State.steerTransition_releasing {b : Bool} {f : Lookup} (hs : s.su.state = .lockRelease)
    (hl : lasted s.su.releaseStart 100000 s.now = false) : s.steerTransition r b f = s.su := by
  unfold State.steerTransition
  rw [hs]
  exact if_neg (by rw [show lasted _ Config.lockReleaseTime _ = _ from hl]; decide)

theorem State.steerTransition_follows {t : Bau} (hs : s.su.state = .following ∨ s.su.state = .holding ∨ s.su.state = .centring) :
    s.steerTransition r true (.value t) = s.toFollowing r t := by
  unfold State.steerTransition
  obtain hs | hs | hs := hs <;> rw [hs]

theorem State.steerTransition_holds (hs : s.su.state = .following ∨ s.su.state = .holding) :
    s.steerTransition r true .brk = s.toHolding := by
  unfold State.steerTransition
  obtain hs | hs := hs <;> rw [hs]

theorem State.steerTransition_centres {b : Bool} {f : Lookup} (hs : s.su.state = .following ∨ s.su.state = .holding)
    (h : b = false ∨ f = .noPath) : s.steerTransition r b f = s.toCentring := by
  unfold State.steerTransition
  obtain hs | hs := hs <;> rw [hs]
  all_goals
    obtain rfl | rfl := h
    · rfl
    · cases b <;> rfl

theorem State.steerTransition_trackStart (s : State) (r : AxleRec) (b : Bool) (f : Lookup) :
    (s.steerTransition r b f).trackStart = s.su.trackStart := by
  have m := State.steerTransition_move s r b f
  generalize s.steerTransition r b f = u at m ⊢
  cases m <;> rfl

/-- A CENTRING axle that does not follow locks at the command 0 where the lock may engage, and otherwise takes its next step. -/
theorem State.steerTransition_centring {b : Bool} {f : Lookup} (hs : s.su.state = .centring)
    (h : ¬(b = true ∧ ∃ t, f = .value t)) : s.steerTransition r b f =
      if s.su.command = 0 ∧ s.lockMayEngage = true then s.toLocked else s.toCentring := by
  unfold State.steerTransition
  rw [hs]
  match b, f with
  | true, .value t => exact absurd ⟨rfl, t, rfl⟩ h
  | true, .brk | true, .noPath | false, _ => rfl

end

/-- Settles O28: the update of a LOCKED axle, in which no tracking check is made. -/
theorem steerUnlocks : Obligations.SteerUnlocks := by
  intro dt r k s u hp hdue hown hs
  have ho : u.own.axle? = some r := by simp [u, hown, StationRec.axle?]
  have hs' : u.su.state = .locked := by simpa [u] using hs
  have hsu : u.su = s.su := by simp [u]
  have hpu : u.pu = s.pu := by simp [u]
  obtain ⟨e1, e2, e3⟩ := steeringUpdate_parts ho
  have su := steeringUpdate_locked ho hs'
  rw [hpu, hsu] at su
  refine ⟨_, runWhen_ready hp hdue, fun x hc hx => ?_, fun h => ?_, ?_, ?_, ?_⟩
  · rw [su, hc, hx]
  · rw [su]
    obtain h | h | h := h <;> rw [h]
    all_goals cases u.followConditions r <;> rfl
  · rw [e1, hpu]
  · rw [e2, trackingCheck_locked hs']; simp [u]
  · rw [e3]; simp [u]

/-- Settles O30: the three times are due updates, each read from its own start. -/
theorem steerTimes : Obligations.SteerTimes := by
  intro dt r k s u found hp hdue hown
  have ho : u.own.axle? = some r := by simp [u, hown, StationRec.axle?]
  have hsu : u.su = s.su := by simp [u]
  have hpu : u.pu = s.pu := by simp [u]
  have hch : u.channel 6 = s.channel 6 := by simp [u]
  have su := steeringUpdate_transition ho
  rw [hpu] at su
  have untracked (h : u.offTrack = false) : (steeringUpdate u).su =
      (u.trackCleared.steerTransition r (u.followConditions r) found).drive := by
    rw [su, trackingCheck_of_onTrack h]; rfl
  refine ⟨fun hs hl => ?_, fun hs hl => ?_, fun hs hc hr hl => ?_, fun m hs hlatch hm hfar hl => ?_⟩
  · have hs' : u.su.state = .lockRelease := hsu ▸ hs
    have off : u.offTrack = false := by simp [State.offTrack, hs', SteerState.tracked]
    have last : lasted u.su.releaseStart 100000 u.now = true := by rw [hsu]; exact hl
    have ready : u.lockReleaseDue = true := by
      simp only [State.lockReleaseDue, hdue, hs', decide_true, Bool.true_and]; exact last
    have step := untracked off
    rw [State.steerTransition_released (s := u.trackCleared) hs' last] at step
    refine ⟨_, runWhen_ready hp ready, ?_⟩
    rw [step]
    match u.followConditions r, found with
    | true, .value t => exact ⟨rfl, rfl, rfl, rfl⟩
    | true, .brk => exact ⟨rfl, rfl, rfl, rfl⟩
    | true, .noPath => exact ⟨rfl, rfl, rfl, rfl⟩
    | false, _ => exact ⟨rfl, rfl, rfl, rfl⟩
  · have hs' : u.su.state = .lockRelease := hsu ▸ hs
    have off : u.offTrack = false := by simp [State.offTrack, hs', SteerState.tracked]
    have last : lasted u.su.releaseStart 100000 u.now = false := by rw [hsu]; exact hl
    have step := untracked off
    rw [State.steerTransition_releasing (s := u.trackCleared) hs' last] at step
    refine ⟨_, runWhen_ready hp hdue, ?_⟩
    rw [step, ← hsu]
    exact ⟨hs', rfl, rfl, by simp [SteeringUnit.drive, State.trackCleared, hs']⟩
  · have hs' : u.su.state = .centring := hsu ▸ hs
    have hc' : u.su.command = 0 := hsu ▸ hc
    have hr' : (u.channel 6).reading = none := hch ▸ hr
    have off : u.offTrack = false := by simp [State.offTrack, hr']
    have last : lasted u.su.zeroStart 300000 u.now = true := by rw [hsu]; exact hl
    have conditions : u.followConditions r = false := by simp [State.followConditions, hr']
    have ready : u.centringSettleDue = true := by
      simp only [State.centringSettleDue, hdue, hs', hc', hr', decide_true, Bool.true_and, Option.isNone_none]; exact last
    have engages : u.trackCleared.lockMayEngage = true := by
      change (match (u.channel 6).reading with | some _ => _ | none => _) = true
      rw [hr']; exact last
    have step := untracked off
    rw [conditions, State.steerTransition_centring (s := u.trackCleared) hs' (by simp), if_pos ⟨hc', engages⟩] at step
    refine ⟨_, runWhen_ready hp ready, ?_⟩
    rw [step]
    exact ⟨rfl, rfl, rfl, rfl, rfl⟩
  · have hm' : (u.channel 6).reading = some m := hch ▸ hm
    have tracked : s.su.state.tracked = true := by obtain h | h | h := hs <;> rw [h] <;> rfl
    have off : u.offTrack = true := by
      simp only [State.offTrack, hsu, tracked, hlatch, hm', Bool.not_false, Bool.true_and, decide_eq_true_eq, Config.trackingBand]
      exact_mod_cast hfar
    have last : lasted u.su.trackStart 300000 u.now = true := by rw [hsu]; exact hl
    have kept : startOr u.su.trackStart u.now = u.su.trackStart := by
      cases h : u.su.trackStart with
      | none => rw [h] at last; cases last
      | some x => rfl
    have checked : trackingCheck u = State.raise .steerFault { u with su := { u.su with trackStart := none, latch := true } } := by
      rw [trackingCheck, if_pos off, kept]
      exact if_pos last
    have ready : u.trackingDue = true := by
      simp only [State.trackingDue, hdue, off, Bool.true_and]; exact last
    refine ⟨_, runWhen_ready hp ready, ?_, ?_, ?_⟩
    · rw [su]
      exact (State.steerTransition_latch ..).trans (by rw [checked]; rfl)
    · rw [su]
      exact (State.steerTransition_trackStart ..).trans (by rw [checked]; rfl)
    · rw [(steeringUpdate_parts ho).2.1, checked]
      simp [mem_insertKind]

/-! ### The command (R76 to R88) -/

/-- A command within the limit stays within it through every transition (R85 to R88). -/
theorem State.steerTransition_within {s : State} {r : AxleRec} {b : Bool} {f : Lookup}
    (h : s.su.command.natAbs ≤ s.steerLimit) : (s.steerTransition r b f).command.natAbs ≤ s.steerLimit := by
  have m := s.steerTransition_move r b f
  generalize s.steerTransition r b f = u at m ⊢
  cases m
  case stays => exact h
  case unlocks | staysLocked | locks => exact Nat.zero_le _
  case follows | holds => exact rateStep_natAbs_le h (clampInt_natAbs_le _ le_rfl)
  case centres => exact rateStep_natAbs_le h (Nat.zero_le _)

/-- The limit from the reference speed, lowered while the body is not at ride height (R85, R86). -/
theorem State.steerLimit_eq (s : State) : s.steerLimit =
    let bySpeed := match s.refSpeed with
      | none => 0
      | some v => if v ≤ s.sc.prof.v1 then s.sc.prof.fullLimit
        else if v < s.sc.prof.v2 then s.sc.prof.fullLimit * (s.sc.prof.v2 - v) / (s.sc.prof.v2 - s.sc.prof.v1) else 0
    if s.lu.level = .ride then bySpeed else min bySpeed s.sc.prof.kneelLimit := by
  unfold State.steerLimit speedLimit
  cases s.refSpeed <;> rfl

/-- The lock may engage within the lock band, or without an angle once the settle time has run (R79, R80). -/
theorem State.lockMayEngage_iff (s : State) : s.lockMayEngage = true ↔
    (∃ m, (s.channel 6).reading = some m ∧ m.natAbs ≤ 50) ∨
      ((s.channel 6).reading = none ∧ lasted s.su.zeroStart 300000 s.now = true) := by
  unfold State.lockMayEngage
  cases h : (s.channel 6).reading with
  | none => simp [Config.centringSettleTime]
  | some m =>
    have band : (m.natAbs : Int) ≤ Config.lockBand ↔ m.natAbs ≤ 50 := Int.ofNat_le (m := m.natAbs) (n := 50)
    simp only [band, decide_eq_true_eq, Option.some.injEq, exists_eq_left', reduceCtorEq, false_and, or_false]

/-- Settles O31: the transitions of FOLLOWING, HOLDING and CENTRING, read after the tracking check. -/
theorem followCommand : Obligations.FollowCommand := by
  intro dt r k s u p bySpeed limit toward holds found zeroFrom hp hdue hown hs
  have ho : u.own.axle? = some r := by simp [u, hown, StationRec.axle?]
  have limitEq : (trackingCheck u).steerLimit = limit := by
    rw [(trackingCheck_readings r u).2.1, State.steerLimit_eq]
    simp only [u, State.elapse_frame]
    rfl
  have command : (trackingCheck u).su.command = s.su.command := by simp [u]
  have zeroStart : (trackingCheck u).su.zeroStart = s.su.zeroStart := by simp [u]
  have state : (trackingCheck u).su.state = s.su.state := by simp [u]
  have now : (trackingCheck u).now = u.now := by simp
  have rate : (trackingCheck u).sc.prof.rateStep = p.rateStep := by simp [u, p]
  have heading : (trackingCheck u).sectionHeading r = u.sectionHeading r := (trackingCheck_readings r u).2.2.1
  have channel : (trackingCheck u).channel 6 = s.channel 6 := (trackingCheck_readings r u).2.2.2.trans (by simp [u])
  have hpu : u.pu = s.pu := by simp [u]
  have su := steeringUpdate_transition ho
  rw [hpu, show lookupAt (u.axlePosition r) s.pu.queue = found from rfl] at su
  have steps (target : Int) : rateStep (trackingCheck u).sc.prof.rateStep (trackingCheck u).su.command target = toward target := by
    rw [rate, command]; rfl
  have centres : (trackingCheck u).toCentring = { (trackingCheck u).su with
      state := .centring, command := toward 0, releaseStart := none, zeroStart := zeroFrom (toward 0) } := by
    simp only [State.toCentring, steps, zeroStart, now]
    rfl
  refine ⟨_, runWhen_ready hp hdue, ?_, ?_, fun hin => ?_, fun x hc hx => ?_, fun hne hc hx => ?_, fun hne hor => ?_, ?_⟩
  · rw [su]; rfl
  · rw [su]; simp [SteeringUnit.drive]
  · rw [su]
    exact limitEq ▸ State.steerTransition_within (by rw [command, limitEq]; exact hin)
  · rw [su, show (trackingCheck u).followConditions r = true from hc, hx, State.steerTransition_follows (state ▸ hs)]
    refine ⟨rfl, rfl, ?_⟩
    change (trackingCheck u).followCommand r x _ = _
    rw [State.followCommand, steps, limitEq, heading]
    rfl
  · have hs' : s.su.state = .following ∨ s.su.state = .holding := by
      obtain h | h | h := hs
      exacts [.inl h, .inr h, absurd h hne]
    rw [su, show (trackingCheck u).followConditions r = true from hc, hx, State.steerTransition_holds (state ▸ hs')]
    refine ⟨rfl, ?_⟩
    change (trackingCheck u).heldCommand _ = _
    rw [State.heldCommand, steps, limitEq, command]
  · have hs' : s.su.state = .following ∨ s.su.state = .holding := by
      obtain h | h | h := hs
      exacts [.inl h, .inr h, absurd h hne]
    rw [su, State.steerTransition_centres (state ▸ hs') (hor.imp (fun h => Bool.eq_false_iff.mpr h) id), centres]
    exact ⟨rfl, rfl, rfl⟩
  · intro he hno locks
    have engage : ((trackingCheck u).su.command = 0 ∧ (trackingCheck u).lockMayEngage = true) ↔ locks := by
      rw [State.lockMayEngage_iff, command, channel, zeroStart, now]
    rw [su, State.steerTransition_centring (state ▸ he) hno]
    refine ⟨fun hl => ?_, fun hl => ?_⟩
    · rw [if_pos (engage.mpr hl)]
      exact ⟨rfl, rfl, rfl⟩
    · rw [if_neg (mt engage.mp hl), centres]
      exact ⟨rfl, rfl, rfl⟩

end Sys2Proof.Machine
end

section
/-! PROOF. Service braking and the joint guard (R96 to R126): what a brake update and a joint update form, and the joint times. -/

namespace Sys2Proof.Machine

/-! ### Readings that a unit's own items do not enter (R43 to R50) -/

/-- The items from which the facts of the peer view are read. -/
structure State.SameView (s t : State) : Prop where
  sc : t.sc = s.sc
  pv : t.pv = s.pv
  now : t.now = s.now
  pc : t.pc = s.pc
  ju : t.ju = s.ju

/-- The state `s` with the items of `t` that such a reading does not look at. -/
theorem State.SameView.eq {s t : State} (h : s.SameView t) :
    t = { t with sc := s.sc, pv := s.pv, now := s.now, pc := s.pc, ju := s.ju } := by
  obtain ⟨h1, h2, h3, h4, h5⟩ := h
  rw [← h1, ← h2, ← h3, ← h4, ← h5]

section
variable {s t : State} (h : s.SameView t)
include h

theorem State.SameView.own : t.own = s.own := State.own_congr h.sc

theorem State.SameView.peerStatus (n : Fin 8) : t.peerStatus n = s.peerStatus n := by rw [h.eq]; rfl

theorem State.SameView.refSpeed : t.refSpeed = s.refSpeed := by rw [h.eq]; rfl

theorem State.SameView.standstill : t.standstill = s.standstill := by rw [h.eq]; rfl

theorem State.SameView.runs : t.runs = s.runs := by rw [h.eq]; rfl

/-- Only the own record can differ, and only in what its unit writes (R39). -/
theorem State.SameView.freshStatus (n : Fin 8) : t.freshStatus n = s.freshStatus n ∨
    (t.freshStatus n = some t.ownStatus ∧ s.freshStatus n = some s.ownStatus) := by
  simp only [State.freshStatus, h.peerStatus, h.runs, h.sc]
  by_cases hn : n = s.sc.strap
  · by_cases hr : s.runs = true
    · exact .inr ⟨by rw [if_pos hn, if_pos hr], by rw [if_pos hn, if_pos hr]⟩
    · exact .inl (by rw [if_pos hn, if_pos hn, if_neg hr, if_neg hr])
  · exact .inl (by rw [if_neg hn, if_neg hn])

/-- A joint's record is read from station states and JOINT parts alone (R50). -/
theorem State.SameView.jointRecord (n : Fin 8) : t.jointRecord n = s.jointRecord n := by
  unfold State.jointRecord
  obtain e | ⟨e1, e2⟩ := h.freshStatus n
  · rw [e]
  · simp only [e1, e2, State.ownStatus, State.ownPart, h.own, h.sc]
    cases s.own <;> simp [State.jointPart, h.ju]

theorem State.SameView.jointRisk (n : Fin 8) : t.jointRisk n = s.jointRisk n := by
  simp only [State.jointRisk, h.jointRecord]

/-- The leading direction is read from the axle's own item or from its record (R44). -/
theorem State.SameView.leadingDirection : t.leadingDirection = s.leadingDirection := by
  unfold State.leadingDirection
  rw [h.own, h.pc, h.sc]
  split
  · rfl
  · cases s.sc.prof.leading with
    | none => rfl
    | some n =>
      simp only [Option.bind_some]
      obtain e | ⟨e1, e2⟩ := h.freshStatus n
      · rw [e]
      · simp only [e1, e2, State.ownStatus, State.ownPart, h.own, h.sc]
        cases s.own <;> simp [State.axlePart, h.pc]

theorem State.SameView.stretches (r : AxleRec) : t.stretches r = s.stretches r := by
  simp only [State.stretches, h.sc, h.jointRisk]

theorem State.SameView.effectiveDemand (hdu : t.du = s.du) : t.effectiveDemand = s.effectiveDemand := by
  have cab : t.isCab = s.isCab := by simp only [State.isCab, h.own]
  have owns (d : Nat) : t.ownsLocked d = s.ownsLocked d := by simp only [State.ownsLocked, hdu]
  simp only [State.effectiveDemand, State.demandSource, State.demandFreshness, State.demandRecord, State.fallbackDemand,
    State.frozenList, h.standstill, h.pv, h.now, h.sc, cab, owns]

end

/-! ### The brake update (R109 to R117) -/

/-- Forming the load leaves every reading. -/
theorem State.withLoad_view (s : State) (r : AxleRec) : s.SameView (s.withLoad r) := ⟨rfl, rfl, rfl, rfl, rfl⟩

@[simp] theorem State.withLoad_anyJointRisk (s : State) (r : AxleRec) : (s.withLoad r).anyJointRisk = s.anyJointRisk := by
  simp only [State.anyJointRisk, (s.withLoad_view r).jointRisk, (s.withLoad_view r).sc]

@[simp] theorem State.withLoad_reverseStopSets (s : State) (r : AxleRec) :
    (s.withLoad r).reverseStopSets = s.reverseStopSets := by
  simp only [State.reverseStopSets, State.withLoad_anyJointRisk, (s.withLoad_view r).standstill,
    (s.withLoad_view r).leadingDirection, show (s.withLoad r).bu.reverseStop = s.bu.reverseStop from rfl]

@[simp] theorem State.withLoad_reverseStopAfter (s : State) (r : AxleRec) :
    (s.withLoad r).reverseStopAfter = s.reverseStopAfter := by
  simp only [State.reverseStopAfter, State.withLoad_reverseStopSets, (s.withLoad_view r).standstill,
    show (s.withLoad r).bu.reverseStop = s.bu.reverseStop from rfl]

@[simp] theorem State.withLoad_deceleration (s : State) (r : AxleRec) (b : Bool) :
    (s.withLoad r).deceleration b = s.deceleration b := by
  simp only [State.deceleration, (s.withLoad_view r).effectiveDemand rfl, (s.withLoad_view r).sc]

@[simp] theorem State.withLoad_axleDemand (s : State) (r : AxleRec) (load a : Nat) :
    (s.withLoad r).axleDemand r load a = s.axleDemand r load a := by
  simp only [State.axleDemand, State.stretched, (s.withLoad_view r).leadingDirection, (s.withLoad_view r).stretches,
    (s.withLoad_view r).sc]

@[simp] theorem State.withLoad_wheelSlip (s : State) (r : AxleRec) (a : Nat) (x : Side) :
    (s.withLoad r).wheelSlip a x = s.wheelSlip a x := by
  simp only [State.wheelSlip, State.slipControl, (s.withLoad_view r).refSpeed, (s.withLoad_view r).pc,
    show (s.withLoad r).hu = s.hu from rfl]
  rfl

/-- The demanded deceleration at a brake update (R112, R113). -/
def State.brakeDeceleration (s : State) : Nat := s.deceleration s.reverseStopAfter

/-- The axle demand at a brake update, from the load it forms (R110 to R116). -/
def State.brakeDemand (s : State) (r : AxleRec) : Nat :=
  s.axleDemand r (s.withLoad r).loadInUse s.brakeDeceleration

/-- A wheel after a brake update under `s.brakeDemand` (R117 to R122). -/
def State.brakedWheel (s : State) (r : AxleRec) (x : Side) : BrakeWheel :=
  (match x with | .left => s.bu.left | .right => s.bu.right).update (s.brakeDemand r) (s.wheelSlip s.brakeDeceleration x)

section
variable {s : State} {r : AxleRec} (ho : s.own.axle? = some r)
include ho

theorem brakeUpdate_load : (brakeUpdate s).bu.load = s.formLoad r := by
  rw [brakeUpdate_bu ho, brakeStep_bu]
  split <;> rfl

theorem brakeUpdate_sched : (brakeUpdate s).sched = { s.sched with brake := some (later s.now 5000) } := by
  unfold brakeUpdate
  rw [ho]
  dsimp only
  split <;> simp [brakeStep, State.withLoad, Config.brakePeriod]

theorem brakeUpdate_listening (hd : s.drives = false) :
    brakeUpdate s = { s with bu := { s.bu with load := s.formLoad r },
                             sched := { s.sched with brake := some (later s.now Config.brakePeriod) } } := by
  simp only [brakeUpdate, ho, hd]
  rfl

theorem brakeUpdate_driving (hd : s.drives = true) : (brakeUpdate s).bu =
    { load := s.formLoad r, frozen := s.bu.frozen, reverseStop := s.reverseStopAfter, demand := s.brakeDemand r,
      left := s.brakedWheel r .left, right := s.brakedWheel r .right } := by
  rw [brakeUpdate_bu ho, if_pos hd, brakeStep_bu]
  simp only [State.withLoad_reverseStopAfter, State.withLoad_deceleration, State.withLoad_axleDemand,
    State.withLoad_wheelSlip]
  rfl

theorem mem_brakeUpdate_summary (hd : s.drives = true) (k : EventKind) : k ∈ (brakeUpdate s).li.summary ↔
    ((slipRaised s.bu.left (s.brakedWheel r .left) = true ∨ slipRaised s.bu.right (s.brakedWheel r .right) = true) ∧
        k = .slipActive) ∨
      (s.reverseStopSets = true ∧ k = .reverseStop) ∨ k ∈ s.li.summary := by
  have e : (brakeUpdate s).li = (brakeStep r (s.withLoad r)).li := by simp [brakeUpdate, ho, hd]
  rw [e, brakeStep]
  simp only [State.mem_raiseIf, State.withLoad_reverseStopSets, Bool.or_eq_true, State.withLoad_reverseStopAfter,
    State.withLoad_deceleration, State.withLoad_axleDemand, State.withLoad_wheelSlip]
  rfl

end

/-! ### What it forms (R110 to R117) -/

theorem State.anyJointRisk_iff (s : State) :
    s.anyJointRisk = true ↔ ∃ n ∈ s.sc.prof.joints, s.jointRisk n = some true := by
  simp [State.anyJointRisk]

/-- The conditions under which the reverse-stop standing is set (R113). -/
theorem State.reverseStopSets_iff (s : State) : s.reverseStopSets = true ↔
    s.bu.reverseStop = false ∧ s.standstill = false ∧ s.leadingDirection = some .reverse ∧
      ∃ n ∈ s.sc.prof.joints, s.jointRisk n = some true := by
  simp [State.reverseStopSets, s.anyJointRisk_iff, and_assoc]

/-- The standing is kept until STANDSTILL (R113). -/
theorem State.reverseStopAfter_iff (s : State) : s.reverseStopAfter = true ↔
    (s.bu.reverseStop = true ∧ s.standstill = false) ∨ s.reverseStopSets = true := by
  cases h : s.bu.reverseStop <;> simp [State.reverseStopAfter, State.reverseStopSets, h]

theorem State.formLoad_formed {s : State} {r : AxleRec} {a b : Int} (hf : s.bu.frozen = none)
    (ha : (s.channel 2).reading = some a) (hb : (s.channel 3).reading = some b) :
    s.formLoad r = some (springLoad r a b) := by
  simp only [State.formLoad, hf, ha, hb]

theorem State.formLoad_kept {s : State} (r : AxleRec)
    (h : s.bu.frozen ≠ none ∨ (s.channel 2).reading = none ∨ (s.channel 3).reading = none) :
    s.formLoad r = s.bu.load := by
  unfold State.formLoad
  split
  next hf ha hb => simp [hf, ha, hb] at h
  · rfl

/-- The load in use while the update forms the demand (R111). -/
theorem State.withLoad_loadInUse {s : State} {r : AxleRec} (ho : s.own.axle? = some r) : (s.withLoad r).loadInUse =
    match s.bu.frozen with
    | some l => l
    | none => (s.formLoad r).getD r.fullScaleLoad := by
  have own : (s.withLoad r).own = s.own := rfl
  simp only [State.loadInUse, own, ho, show (s.withLoad r).bu.frozen = s.bu.frozen from rfl,
    show (s.withLoad r).bu.load = s.formLoad r from rfl]
  cases s.bu.frozen <;> cases s.formLoad r <;> rfl

theorem State.stretched_forward {s : State} {r : AxleRec} {x : Nat} (p : Int)
    (hf : s.leadingDirection = some .forward) (hx : (s.stretches r).max? = some x) :
    s.stretched r p = roundDiv (p * (256 + x : Nat)) 256 := by
  simp only [State.stretched, hf, hx]

theorem State.stretched_plain {s : State} {r : AxleRec} (p : Int)
    (h : s.leadingDirection ≠ some .forward ∨ s.stretches r = []) : s.stretched r p = p := by
  unfold State.stretched
  split
  next hf hx =>
    obtain h | h := h
    · exact absurd hf h
    · simp [h] at hx
  · rfl

/-- The demand is clamped to the pressure limit (R116). -/
theorem State.axleDemand_le_limit (s : State) (r : AxleRec) (load a : Nat) : s.axleDemand r load a ≤ s.sc.prof.pMax := by
  have := clampInt_le (lo := 0) (hi := s.sc.prof.pMax) (s.stretched r (baseDemand r load a)) (by omega)
  unfold State.axleDemand
  omega

/-- Slip control is inactive with the hold applied, without a demand, or below 1,000 mm/s (R117). -/
theorem State.slipControl_off {s : State} {a : Nat}
    (h : s.hu.state.applied = true ∨ a = 0 ∨ s.refSpeed = none ∨ (∃ v, s.refSpeed = some v ∧ v < 1000)) :
    s.slipControl a = false := by
  unfold State.slipControl
  split
  next v hv =>
    obtain h | h | h | ⟨w, hw, h⟩ := h
    · simp [h]
    · simp [h]
    · simp [h] at hv
    · rw [hv] at hw
      cases hw
      simp [show ¬Config.slipSpeed ≤ v from not_le.mpr h]
  · rfl

/-- While slip control is inactive a wheel stands in APPLY at the demand (R117, R122). -/
theorem State.brakedWheel_inactive {s : State} {r : AxleRec} (x : Side)
    (h : s.slipControl s.brakeDeceleration = false) :
    s.brakedWheel r x = ⟨.apply, s.brakeDemand r, s.brakeDemand r, 0⟩ := by
  simp [State.brakedWheel, State.wheelSlip, h, BrakeWheel.update]

/-- Settles O34: the fields of the brake unit as one update leaves them. -/
theorem brakeDemandForms : Obligations.BrakeDemandForms := by
  intro dt r k s u hp hdue hown
  have ho : u.own.axle? = some r := by simp [u, hown, StationRec.axle?]
  have drives : u.drives = s.drives := State.elapse_drives ..
  have bu : u.bu = s.bu := by simp [u]
  have hu : u.hu = s.hu := by simp [u]
  have sc : u.sc = s.sc := by simp [u]
  have li : u.li = s.li := by simp [u]
  have channel (i : Fin 8) : u.channel i = s.channel i := by simp [u]
  have sched : u.sched = s.sched := by simp [u]
  have load := brakeUpdate_load ho
  refine ⟨brakeUpdate u, runWhen_ready hp hdue, ?_⟩
  clear_value u
  refine ⟨?_, ?_, fun a b hf ha hb => ?_, fun h => ?_, fun hd => ?_, fun hd => ?_⟩
  · rw [brakeUpdate_sched ho, sched]
    rfl
  · simp [bu]
  · rw [load, State.formLoad_formed (bu ▸ hf) (channel 2 ▸ ha) (channel 3 ▸ hb)]
    rfl
  · rw [load, State.formLoad_kept r (by rw [bu, channel, channel]; exact h), bu]
  · rw [brakeUpdate_listening ho (drives.trans hd)]
    exact ⟨by rw [bu], li⟩
  · have hd := drives.trans hd
    intro stops a inUse base
    have sets : u.reverseStopSets = true ↔ stops := by rw [State.reverseStopSets_iff, bu, sc]
    have fields := brakeUpdate_driving ho hd
    have standing : (brakeUpdate u).bu.reverseStop = u.reverseStopAfter := by rw [fields]
    have demand : (brakeUpdate u).bu.demand = u.brakeDemand r := by rw [fields]
    have ha : u.brakeDeceleration = a := by
      simp only [State.brakeDeceleration, State.deceleration, a, standing, sc]
    have loaded : (u.withLoad r).loadInUse = inUse := by
      rw [State.withLoad_loadInUse ho, bu]
      simp only [inUse, load]
      rfl
    have formed : (brakeUpdate u).bu.demand = (clampInt 0 s.sc.prof.pMax (u.stretched r base)).toNat := by
      rw [demand, State.brakeDemand, ha, loaded, State.axleDemand, sc]
      rfl
    refine ⟨?_, ?_, fun x hf hx => ?_, fun h => ?_, ?_, fun h => ?_⟩
    · rw [standing, State.reverseStopAfter_iff, sets, bu]
    · rw [mem_brakeUpdate_summary ho hd, sets, li]
      simp
    · rw [formed, State.stretched_forward base hf hx]
    · rw [formed, State.stretched_plain base h]
    · rw [demand, ← sc]
      exact State.axleDemand_le_limit ..
    · have off : u.slipControl u.brakeDeceleration = false := State.slipControl_off (by rw [hu, ha]; exact h)
      rw [fields, State.brakedWheel_inactive .left off, State.brakedWheel_inactive .right off]
      exact ⟨rfl, rfl⟩

/-! ### The slip rows (R117 to R123) -/

section
variable {w : BrakeWheel} {demand : Nat} {slip : Int}

/-- Above 150 ‰ a wheel goes to RELEASE (R118, R120, R121). -/
theorem BrakeWheel.slipStep_high (hw : w.slip ≠ .release) (h : 150 < slip) : w.slipStep demand slip = w.toRelease := by
  have : Config.slipHigh < slip := h
  unfold BrakeWheel.slipStep
  split
  case h_2 => contradiction
  all_goals rw [if_pos this]

theorem BrakeWheel.slipStep_apply (hw : w.slip = .apply) (h : slip ≤ 150) :
    w.slipStep demand slip = { w with target := demand } := by
  have : ¬Config.slipHigh < slip := not_lt.mpr h
  simp only [BrakeWheel.slipStep, hw, if_neg this]

theorem BrakeWheel.slipStep_release (hw : w.slip = .release) (h : 80 ≤ slip) :
    w.slipStep demand slip = w.toRelease := by
  have : ¬slip < Config.slipLow := not_lt.mpr h
  simp only [BrakeWheel.slipStep, hw, if_neg this]

/-- The slip fallen below 80 ‰ (R119). -/
theorem BrakeWheel.slipStep_recovered (hw : w.slip = .release) (h : slip < 80) :
    w.slipStep demand slip = { w with slip := .holdP, holdGood := 0 } := by
  have : slip < Config.slipLow := h
  simp only [BrakeWheel.slipStep, hw, if_pos this]

/-- HOLD_P between the two thresholds (R120). -/
theorem BrakeWheel.slipStep_hold (hw : w.slip = .holdP) (h : 80 ≤ slip) (h' : slip ≤ 150) :
    w.slipStep demand slip = { w with holdGood := 0 } := by
  have high : ¬Config.slipHigh < slip := not_lt.mpr h'
  have low : Config.slipLow ≤ slip := h
  simp only [BrakeWheel.slipStep, hw, if_neg high, if_pos low]

/-- HOLD_P below 80 ‰, before its third such update (R120). -/
theorem BrakeWheel.slipStep_counts (hw : w.slip = .holdP) (h : slip < 80) (hn : w.holdGood + 1 < 3) :
    w.slipStep demand slip = { w with holdGood := w.holdGood + 1 } := by
  have high : ¬Config.slipHigh < slip := not_lt.mpr (by change slip ≤ 150; omega)
  have low : ¬Config.slipLow ≤ slip := not_le.mpr h
  simp only [BrakeWheel.slipStep, hw, if_neg high, if_neg low, if_pos hn]

/-- The third such update of HOLD_P, and REAPPLY up to 150 ‰ (R120, R121). -/
theorem BrakeWheel.slipStep_reapplies
    (h : (w.slip = .holdP ∧ slip < 80 ∧ 3 ≤ w.holdGood + 1) ∨ (w.slip = .reapply ∧ slip ≤ 150)) :
    w.slipStep demand slip = w.reapplyStep demand := by
  obtain ⟨hw, h, hn⟩ | ⟨hw, h⟩ := h
  · have high : ¬Config.slipHigh < slip := not_lt.mpr (by change slip ≤ 150; omega)
    have low : ¬Config.slipLow ≤ slip := not_le.mpr h
    simp only [BrakeWheel.slipStep, hw, if_neg high, if_neg low, if_neg (not_lt.mpr hn)]
  · have high : ¬Config.slipHigh < slip := not_lt.mpr h
    simp only [BrakeWheel.slipStep, hw, if_neg high]

theorem BrakeWheel.reapplyStep_holdGood (w : BrakeWheel) (demand : Nat) : (w.reapplyStep demand).holdGood = 0 := by
  unfold BrakeWheel.reapplyStep; split <;> rfl

theorem BrakeWheel.reapplyStep_short (h : w.target + 10 < demand) :
    w.reapplyStep demand = { w with slip := .reapply, target := w.target + 10, holdGood := 0 } :=
  if_neg (not_le.mpr h)

theorem BrakeWheel.reapplyStep_reaches (h : demand ≤ w.target + 10) :
    w.reapplyStep demand = { w with slip := .apply, target := demand, holdGood := 0 } :=
  if_pos h

/-- The step of a wheel, its target lowered to the demand and written to the set-point (R122). -/
theorem BrakeWheel.update_of_slip {w' : BrakeWheel} (h : w.slipStep demand slip = w') : w.update demand (some slip) =
    { w' with target := min w'.target demand, setPoint := min w'.target demand } := by
  rw [← h]; rfl

/-- Of APPLY, only a slip above 150 ‰ leads to RELEASE (R118, R123). -/
theorem slipRaised_update :
    slipRaised w (w.update demand (some slip)) = true ↔ w.slip = .apply ∧ 150 < slip := by
  simp only [slipRaised, Bool.and_eq_true, decide_eq_true_eq, and_congr_right_iff]
  intro hw
  by_cases h : 150 < slip
  · have : w.slip ≠ .release := by simp [hw]
    rw [BrakeWheel.update_of_slip (BrakeWheel.slipStep_high this h)]
    simp [BrakeWheel.toRelease, h]
  · rw [BrakeWheel.update_of_slip (BrakeWheel.slipStep_apply hw (not_lt.mp h))]
    simp [hw, h]

end

/-- Slip control is active at 1,000 mm/s, under a demand, with the hold released (R117). -/
theorem State.slipControl_on {s : State} {a v : Nat} (hv : s.refSpeed = some v) (h : 1000 ≤ v) (ha : 0 < a)
    (hh : s.hu.state.applied = false) : s.slipControl a = true := by
  have : Config.slipSpeed ≤ v := h
  simp [State.slipControl, hv, hh, this, ha]

/-- Settles O35: the rows of a wheel's slip step, its target then lowered to the demand. -/
theorem slipHoldRows : Obligations.SlipHoldRows := by
  intro dt r k v s u slipOn hp hdue hown hdrives hv hfast hhold
  have ho : u.own.axle? = some r := by simp [u, hown, StationRec.axle?]
  have hd : u.drives = true := (State.elapse_drives ..).trans hdrives
  have bu : u.bu = s.bu := by simp [u]
  have hu : u.hu = s.hu := by simp [u]
  have pc : u.pc = s.pc := by simp [u]
  have sc : u.sc = s.sc := by simp [u]
  have li : u.li = s.li := by simp [u]
  refine ⟨brakeUpdate u, runWhen_ready hp hdue, fun hdemand => ?_⟩
  clear_value u
  have fields := brakeUpdate_driving ho hd
  have demanded : 0 < u.brakeDeceleration := by
    rw [fields, ← sc] at hdemand
    unfold State.brakeDeceleration State.deceleration
    obtain h | ⟨h, h'⟩ := hdemand
    · split <;> omega
    · rw [if_pos (show u.reverseStopAfter = true from h)]; omega
  have on : u.slipControl u.brakeDeceleration = true :=
    State.slipControl_on hv hfast demanded (hu ▸ hhold)
  have slip (x : Side) : u.wheelSlip u.brakeDeceleration x = some (slipOn x) := by
    rw [State.wheelSlip, if_pos on, hv, pc]
    rfl
  have left : u.brakedWheel r .left = s.bu.left.update (u.brakeDemand r) (some (slipOn .left)) := by
    rw [State.brakedWheel, slip, bu]
  have right : u.brakedWheel r .right = s.bu.right.update (u.brakeDemand r) (some (slipOn .right)) := by
    rw [State.brakedWheel, slip, bu]
  refine ⟨?_, fun w w' x hw => ?_⟩
  · rw [mem_brakeUpdate_summary ho hd, left, right, bu, slipRaised_update, slipRaised_update, li]
    simp [or_comm]
  · have demand : (brakeUpdate u).bu.demand = u.brakeDemand r := by rw [fields]
    rw [demand]
    replace hw : w' = w.update (u.brakeDemand r) (some x) := by
      rw [fields, left, right] at hw
      obtain ⟨rfl, rfl, rfl⟩ | ⟨rfl, rfl, rfl⟩ := hw <;> rfl
    subst hw
    refine ⟨rfl, fun h1 h2 => ?_, fun h1 h2 => ?_, fun h1 h2 => ?_, fun h1 h2 => ?_, fun h1 h2 h3 => ?_,
      fun h1 h2 h3 => ?_, fun h => ?_⟩
    · rw [BrakeWheel.update_of_slip (BrakeWheel.slipStep_high h1 h2)]
      exact ⟨rfl, rfl, rfl⟩
    · rw [BrakeWheel.update_of_slip (BrakeWheel.slipStep_apply h1 h2)]
      exact ⟨h1, min_self _⟩
    · rw [BrakeWheel.update_of_slip (BrakeWheel.slipStep_release h1 h2)]
      exact ⟨rfl, rfl⟩
    · rw [BrakeWheel.update_of_slip (BrakeWheel.slipStep_recovered h1 h2)]
      exact ⟨rfl, rfl, rfl⟩
    · rw [BrakeWheel.update_of_slip (BrakeWheel.slipStep_hold h1 h2 h3)]
      exact ⟨h1, rfl, rfl⟩
    · rw [BrakeWheel.update_of_slip (BrakeWheel.slipStep_counts h1 h2 h3)]
      exact ⟨h1, rfl, rfl⟩
    · rw [BrakeWheel.update_of_slip (BrakeWheel.slipStep_reapplies h)]
      refine ⟨w.reapplyStep_holdGood _, fun hlt => ?_, fun hle => ?_⟩
      · rw [BrakeWheel.reapplyStep_short hlt]
        exact ⟨rfl, min_eq_left hlt.le⟩
      · rw [BrakeWheel.reapplyStep_reaches hle]
        exact ⟨rfl, min_self _⟩

end Sys2Proof.Machine
end

section
/-! PROOF. Joint guard (R96 to R108): the risk flag, the damper times and the trimming in LISTENING. -/

namespace Sys2Proof.Machine

/-! ### A start just taken -/

@[simp] theorem age_self (t : Time) : age t t = 0 := by simp [age]

/-- A start of this instant has not lasted. -/
theorem lasted_startOr_none {limit : Nat} (h : 0 < limit) (now : Time) : lasted (startOr none now) limit now = false := by
  simp [lasted, startOr, Nat.ne_of_gt h]

/-- A start that has lasted is a start held. -/
theorem startOr_of_lasted {start : Option Time} {limit : Nat} {now : Time} (h : lasted start limit now = true) :
    startOr start now = start := by
  cases start with
  | none => cases h
  | some t => rfl

/-! ### The set condition (R100) -/

theorem atRiskSpeed_iff (v : Option Nat) : atRiskSpeed v = true ↔ ∀ x, v = some x → 1400 ≤ x := by
  cases v with
  | none => simp [atRiskSpeed]
  | some x => exact decide_eq_true_iff.trans ⟨fun h y hy => by cases hy; exact h, fun h => h x rfl⟩

theorem isMoving_iff (v : Option Nat) : isMoving v = true ↔ ∀ x, v = some x → 0 < x := by
  cases v <;> simp [isMoving]

/-- The set condition of each joint state, on the readings of the update (R99, R100). -/
theorem State.riskSet_iff (s : State) (r : JointRec) : riskSet r s.refSpeed (s.jointView r) = true ↔
    let w := s.jointView r
    let angle := w.measured.getD 0
    w.state = .fault ∨
    (w.state = .tracking ∧ (∀ v, s.refSpeed = some v → 1400 ≤ v) ∧ ∃ x, s.expected r = some x ∧
      r.eOn < (BitVec.ofInt 16 angle - BitVec.ofInt 16 x).toInt.natAbs) ∨
    (w.state = .static ∧ r.staticLimit < angle.natAbs ∧ (∀ v, s.refSpeed = some v → 1400 ≤ v)) ∨
    (w.state = .reverse ∧ r.reverseLimit < angle.natAbs ∧ (∀ v, s.refSpeed = some v → 0 < v)) := by
  simp only [← atRiskSpeed_iff, ← isMoving_iff]
  cases hm : (s.channel 0).reading with
  | none => simp [s.jointView_fault hm, riskSet]
  | some m =>
    by_cases hd : s.leadingDirection = some .reverse
    · simp [s.jointView_reverse hm hd, riskSet, JointView.magnitude]
    · cases hx : s.expected r with
      | none => simp [s.jointView_static hm hd hx, riskSet, JointView.magnitude]
      | some x =>
        simp only [s.jointView_tracking hm hd hx, riskSet, deviation, angleDiff, Bool.and_eq_true, decide_eq_true_eq,
          Option.getD_some, Option.some.injEq, exists_eq_left', reduceCtorEq, false_and, or_false, false_or, true_and]
        exact and_comm

/-! ### The damper check (R105) -/

section
variable (u : JointUnit) (now : Time) (p : Option Int)

/-- The damper check leaves the risk flag, its start and the joint state. -/
@[simp] theorem JointUnit.damperCheck_risk : (u.damperCheck now p).risk = u.risk ∧
    (u.damperCheck now p).clearStart = u.clearStart ∧ (u.damperCheck now p).state = u.state := by
  unfold JointUnit.damperCheck JointUnit.damperStanding JointUnit.damperStarts
  cases p with
  | none => exact ⟨rfl, rfl, rfl⟩
  | some x => dsimp only; (repeat' split) <;> exact ⟨rfl, rfl, rfl⟩

end

section
variable {u : JointUnit} {now : Time} {p : Int}

/-- Without a low start held, a damper that works is not found lost at one update. -/
theorem JointUnit.damperCheck_works (p : Option Int) (hl : u.damperLost = false) (hs : u.lowStart = none) :
    (u.damperCheck now p).damperLost = false := by
  cases p with
  | none => exact hl
  | some x =>
    have fresh : lasted (u.damperStarts now x).lowStart Config.damperLowTime now = false := by
      unfold JointUnit.damperStarts
      dsimp only
      split
      · rw [hs]; exact lasted_startOr_none (by decide) now
      · rfl
    have kept : (u.damperStarts now x).damperLost = u.damperLost := rfl
    simp [JointUnit.damperCheck, JointUnit.damperStanding, fresh, kept, hl]

/-- A low pressure of 1,000,000 µs takes the damper as lost. -/
theorem JointUnit.damperCheck_lost (hp : p < 150) (hd : 60 ≤ u.damping) (hs : lasted u.lowStart 1000000 now = true) :
    (u.damperCheck now (some p)).damperLost = true ∧ (u.damperCheck now (some p)).lowStart = none := by
  have low : u.lowPressure p = true := by
    have h1 : Config.firmDamping ≤ u.damping := hd
    have h2 : p < Config.damperPressure := hp
    simp [JointUnit.lowPressure, h1, h2]
  have start : (u.damperStarts now p).lowStart = u.lowStart := by
    simp only [JointUnit.damperStarts, low, if_true, startOr_of_lasted hs]
  have old : lasted (u.damperStarts now p).lowStart Config.damperLowTime now = true := start ▸ hs
  simp [JointUnit.damperCheck, JointUnit.damperStanding, old]

/-- A good pressure of 300,000 µs ends the standing. -/
theorem JointUnit.damperCheck_good (hp : 150 ≤ p) (hl : u.damperLost = true) (hs : lasted u.goodStart 300000 now = true) :
    (u.damperCheck now (some p)).damperLost = false := by
  have high : ¬p < Config.damperPressure := not_lt.mpr hp
  have low : u.lowPressure p = false := by simp [JointUnit.lowPressure, high]
  have start : (u.damperStarts now p).goodStart = u.goodStart := by
    simp only [JointUnit.damperStarts, if_neg high, startOr_of_lasted hs]
  have young : lasted (u.damperStarts now p).lowStart Config.damperLowTime now = false := by
    simp only [JointUnit.damperStarts, low]; rfl
  have old : lasted (u.damperStarts now p).goodStart Config.damperGoodTime now = true := start ▸ hs
  have lost : (u.damperStarts now p).damperLost = true := hl
  simp [JointUnit.damperCheck, JointUnit.damperStanding, young, old, lost]

end

/-! ### The risk flag and its clear time (R100, R101) -/

section
variable {u : JointUnit} {r : JointRec} {v : Option Nat} {w : JointView} {now : Time}

/-- Settling the flag leaves the damper's items. -/
@[simp] theorem JointUnit.settleRisk_damper (u : JointUnit) (r : JointRec) (v : Option Nat) (w : JointView) (now : Time) :
    (u.settleRisk r v w now).damperLost = u.damperLost ∧ (u.settleRisk r v w now).lowStart = u.lowStart := by
  unfold JointUnit.settleRisk; (repeat' split) <;> exact ⟨rfl, rfl⟩

theorem JointUnit.settleRisk_sets (h : riskSet r v w = true ∨ u.damperLost = true) :
    u.settleRisk r v w now = { u with risk := true, clearStart := none } :=
  if_pos ((Bool.or_eq_true ..).mpr h)

section
variable (h : ¬(riskSet r v w = true ∨ u.damperLost = true))
include h

theorem JointUnit.settleRisk_rests (hc : ¬(u.risk = true ∧ riskClears r w = true)) :
    u.settleRisk r v w now = { u with clearStart := none } := by
  rw [JointUnit.settleRisk, if_neg (by simpa using h), if_neg (by simpa using hc)]

theorem JointUnit.settleRisk_counts (hr : u.risk = true) (hc : riskClears r w = true)
    (hn : u.clearStart = none ∨ u.state ≠ w.state) : u.settleRisk r v w now = { u with clearStart := some now } := by
  have start : u.startFor w.state = none := by
    unfold JointUnit.startFor
    obtain hn | hn := hn
    · rw [hn, ite_self]
    · exact if_neg hn
  rw [JointUnit.settleRisk, if_neg (by simpa using h), if_pos (by simp [hr, hc]), start,
    if_neg (by rw [lasted_startOr_none (by decide)]; simp)]
  rfl

theorem JointUnit.settleRisk_clears (hr : u.risk = true) (hc : riskClears r w = true) (hw : u.state = w.state)
    (hs : lasted u.clearStart 300000 now = true) :
    u.settleRisk r v w now = { u with risk := false, clearStart := none } := by
  have start : u.startFor w.state = u.clearStart := if_pos hw
  rw [JointUnit.settleRisk, if_neg (by simpa using h), if_pos (by simp [hr, hc]), start, startOr_of_lasted hs]
  exact if_pos hs

end

end

/-! ### The update (R96, R102, R104) -/

/-- The joint unit after the damper check of an update. -/
def State.damperChecked (s : State) : JointUnit := s.ju.damperCheck s.now (s.channel 1).reading

section
variable {s : State} {r : JointRec} {k : Nat} (hd : s.drives = true) (ho : s.own = .joint k r)
include hd ho

/-- The risk items of the joint unit are those its settling gives. -/
theorem jointUpdate_settles :
    (jointUpdate s).ju.risk = (s.damperChecked.settleRisk r s.refSpeed (s.jointView r) s.now).risk ∧
    (jointUpdate s).ju.clearStart = (s.damperChecked.settleRisk r s.refSpeed (s.jointView r) s.now).clearStart ∧
    (jointUpdate s).ju.damperLost = s.damperChecked.damperLost ∧
    (jointUpdate s).ju.lowStart = s.damperChecked.lowStart := by
  rw [jointUpdate_ju hd ho]
  exact ⟨rfl, rfl, (JointUnit.settleRisk_damper ..).1, (JointUnit.settleRisk_damper ..).2⟩

/-- The two events of a joint update. -/
theorem jointUpdate_summary : (jointUpdate s).li.summary =
    let risked := if s.ju.risk = false ∧ (jointUpdate s).ju.risk = true then insertKind .jackknifeRisk s.li.summary
      else s.li.summary
    if s.ju.beyondEnd = false ∧ (jointUpdate s).ju.beyondEnd = true then insertKind .jointEnd risked else risked := by
  have e : (jointUpdate s).li.summary = (jointStep r s).li.summary := by
    simp [jointUpdate, ho, StationRec.joint?, hd]
  rw [e, jointStep, jointUpdate_ju hd ho]
  simp only [State.raiseIf_eq, Bool.and_eq_true, Bool.not_eq_true']

end

/-! ### The trimming (R67) -/

/-- A newer point at or behind the position is found first. -/
theorem bracket_cons (d : Dist) (p : QueuePoint) (rest : List QueuePoint) : bracket d (p :: rest) =
    (bracket d rest).orElse fun _ => if (p.distance - d).toInt ≤ 0 then some (p, rest) else none := by
  conv_lhs => unfold bracket
  cases bracket d rest <;> rfl

/-- A lookup finds no point at or behind a position exactly when all are ahead of it. -/
theorem bracket_eq_none_iff {d : Dist} {q : List QueuePoint} :
    bracket d q = none ↔ ∀ y ∈ q, 0 < (y.distance - d).toInt := by
  induction q with
  | nil => simp [bracket]
  | cons p rest ih =>
    rw [List.forall_mem_cons, ← ih, bracket_cons]
    cases bracket d rest with
    | some found => simp only [Option.orElse_some, reduceCtorEq, and_false]
    | none => simp only [Option.orElse_none, ite_eq_right_iff, reduceCtorEq, imp_false, not_le, and_true]

/-- It finds the newest such point and those laid after it. -/
theorem bracket_eq_some {d : Dist} {q ahead : List QueuePoint} {p : QueuePoint} (h : bracket d q = some (p, ahead)) :
    (∃ older, q = older ++ p :: ahead) ∧ (p.distance - d).toInt ≤ 0 ∧ ∀ y ∈ ahead, 0 < (y.distance - d).toInt := by
  induction q with
  | nil => cases h
  | cons x rest ih =>
    rw [bracket_cons] at h
    cases hf : bracket d rest with
    | some found =>
      rw [hf] at h
      cases h
      obtain ⟨⟨older, rfl⟩, found⟩ := ih hf
      exact ⟨⟨x :: older, rfl⟩, found⟩
    | none =>
      rw [hf, Option.orElse_none] at h
      split at h
      next hx =>
        cases h
        exact ⟨⟨[], rfl⟩, hx, bracket_eq_none_iff.mp hf⟩
      · cases h

/-- In LISTENING a joint update trims alone. -/
theorem jointUpdate_listening {s : State} {r : JointRec} (hd : s.drives = false) (ho : s.own.joint? = some r) :
    jointUpdate s = { s with pu := { s.pu with queue := trim (s.rearPosition r) s.pu.queue },
                             sched := { s.sched with joint := some (later s.now Config.jointPeriod) } } := by
  simp only [jointUpdate, ho, hd]
  rfl

/-- No unit drives in LISTENING. -/
theorem State.drives_of_listening {s : State} (h : s.sc.station = .listening) : s.drives = false := by
  simp [State.drives, h, StationState.drives]

/-- Settles O33: the settling of the risk flag, case by case, the damper's standing, and the trimming of LISTENING. -/
theorem jointTimes : Obligations.JointTimes := by
  refine ⟨?driving, ?listening⟩
  case driving =>
    intro dt r k s u hp hdue hdrives hown
    have hd : u.drives = true := (State.elapse_drives ..).trans hdrives
    have ho : u.own = .joint k r := (State.elapse_own ..).trans hown
    have ju : u.ju = s.ju := by simp [u]
    have li : u.li = s.li := by simp [u]
    have channel : u.channel 1 = s.channel 1 := by simp [u]
    obtain ⟨hrisk, hstart, hlost, hlow⟩ := jointUpdate_settles hd ho
    obtain ⟨risk, clearStart, state⟩ : u.damperChecked.risk = s.ju.risk ∧
        u.damperChecked.clearStart = s.ju.clearStart ∧ u.damperChecked.state = s.ju.state := by
      rw [← ju]; exact u.ju.damperCheck_risk u.now (u.channel 1).reading
    refine ⟨⟨jointUpdate u, runWhen_ready hp hdue, ?_⟩, fun hr hl hs hc hw hset hclears => ?_, fun p hr hlt hdamp hs => ?_,
      fun p hr hle hl hs => ?_⟩
    · clear_value u
      intro fast moves sets
      have hsets : sets ↔ riskSet r u.refSpeed (u.jointView r) = true ∨ u.damperChecked.damperLost = true := by
        rw [u.riskSet_iff r, ← hlost, or_comm]
        simp only [sets, fast, moves, jointUpdate_ju hd ho, JointUnit.update_state, JointUnit.update_angle]
      have hw : (jointUpdate u).ju.state = (u.jointView r).state := by rw [jointUpdate_ju hd ho]; rfl
      rw [hrisk, hstart, hw, hsets]
      refine ⟨fun h => ?_, fun h hr => ?_, fun h hr hc => ?_, fun h hr hc hn => ?_, ?_⟩
      · rw [JointUnit.settleRisk_sets h]
        exact ⟨rfl, rfl⟩
      · rw [JointUnit.settleRisk_rests h (fun hc => by simp [risk, hr] at hc)]
        exact ⟨risk.trans hr, rfl⟩
      · rw [JointUnit.settleRisk_rests h (fun hc' => by simp [hc] at hc')]
        exact ⟨risk.trans hr, rfl⟩
      · rw [JointUnit.settleRisk_counts h (risk.trans hr) hc (by rw [clearStart, state]; exact hn)]
        exact ⟨risk.trans hr, rfl⟩
      · have := jointUpdate_summary hd ho
        rw [ju, li, hrisk] at this
        exact this
    · have ready : u.riskClearDue = true := by
        simp only [State.riskClearDue, hdue, hd, ju, hr, Bool.true_and]
        exact hc
      refine ⟨jointUpdate u, runWhen_ready hp ready, ?_⟩
      have works : u.damperChecked.damperLost = false := JointUnit.damperCheck_works _ (ju ▸ hl) (ju ▸ hs)
      rw [hrisk, hstart, JointUnit.settleRisk_clears (by simp [hset, works]) (risk.trans hr) hclears (state.trans hw)
        (clearStart ▸ hc)]
      exact ⟨rfl, rfl⟩
    · have ready : u.damperLowDue = true := by
        simp only [State.damperLowDue, hdue, hd, ju, Bool.true_and]
        exact hs
      refine ⟨jointUpdate u, runWhen_ready hp ready, ?_⟩
      obtain ⟨lost, low⟩ : u.damperChecked.damperLost = true ∧ u.damperChecked.lowStart = none := by
        rw [State.damperChecked, channel, hr, ju]
        exact JointUnit.damperCheck_lost hlt hdamp hs
      have risks : (jointUpdate u).ju.risk = true := by rw [hrisk, JointUnit.settleRisk_sets (.inr lost)]
      refine ⟨hlost.trans lost, risks, hlow.trans low, fun hno => ?_⟩
      have begins : u.ju.risk = false ∧ (jointUpdate u).ju.risk = true := ⟨by rw [ju]; exact hno, risks⟩
      rw [jointUpdate_summary hd ho]
      dsimp only
      rw [if_pos begins]
      split <;> simp [mem_insertKind]
    · have ready : u.damperGoodDue = true := by
        simp only [State.damperGoodDue, hdue, hd, ju, hl, Bool.true_and]
        exact hs
      refine ⟨jointUpdate u, runWhen_ready hp ready, hlost.trans ?_⟩
      rw [State.damperChecked, channel, hr, ju]
      exact JointUnit.damperCheck_good hle hl hs
  case listening =>
    intro dt r k s u hp hdue hst hown
    have hd : u.drives = false := State.drives_of_listening (by simpa [u] using hst)
    have ho : u.own.joint? = some r := by simp [u, hown, StationRec.joint?]
    have pu : u.pu = s.pu := by simp [u]
    refine ⟨jointUpdate u, runWhen_ready hp hdue, ?_⟩
    clear_value u
    rw [jointUpdate_listening hd ho, pu]
    refine ⟨rfl, fun h => by rw [h]; rfl, fun rear h => ?_⟩
    rw [h]
    refine ⟨fun hall => ?_, fun ⟨y, hy, hle⟩ => ?_⟩
    · simp only [trim, bracket_eq_none_iff.mpr hall]
    · cases hb : bracket rear s.pu.queue with
      | none => exact absurd hle (not_le.mpr (bracket_eq_none_iff.mp hb y hy))
      | some found =>
        obtain ⟨⟨older, hq⟩, hp, hahead⟩ := bracket_eq_some hb
        exact ⟨older, found.1, found.2, hq, by simp only [trim, hb], hp, hahead⟩

end Sys2Proof.Machine
end

section
/-! PROOF. Ride height (R150 to R157): the step of one corner, and the corners of one level update. -/

namespace Sys2Proof.Machine

/-! ### The error of a corner (R152) -/

section
variable {c : Corner} {h : Int} (hh : c.height = some h)
include hh

theorem Corner.errorIs_eq (p : Int → Bool) : c.errorIs p = p (h - c.target) := by
  simp only [Corner.errorIs, Corner.error, hh, Option.map_some]

theorem Corner.within_iff (band : Int) : c.within band = true ↔ ((h - c.target).natAbs : Int) ≤ band := by
  simp only [Corner.within, Corner.errorIs_eq hh, decide_eq_true_eq]

end

theorem deadband_pos (b : Bool) : 0 < deadband b := by cases b <;> decide

/-! ### What a step keeps -/

/-- The floor bar alone is cleared before a step (R153). -/
@[simp] theorem Corner.clearBar_frame (c : Corner) (v : CornerView) :
    (c.clearBar v).history = c.history ∧ (c.clearBar v).height = c.height ∧ (c.clearBar v).target = c.target ∧
    (c.clearBar v).phase = c.phase ∧ (c.clearBar v).pulseStart = c.pulseStart ∧
    (c.clearBar v).pulseHeight = c.pulseHeight ∧ (c.clearBar v).unchecked = c.unchecked ∧
    (c.clearBar v).closureEnd = c.closureEnd ∧ (c.clearBar v).settleStart = c.settleStart ∧
    (c.clearBar v).progress = c.progress ∧ (c.clearBar v).cause = c.cause ∧
    (c.clearBar v).fillValve = c.fillValve ∧ (c.clearBar v).exhaustValve = c.exhaustValve := by
  unfold Corner.clearBar
  split <;> simp

/-- A cleared bar stays cleared. -/
theorem Corner.clearBar_of_clear {c : Corner} (v : CornerView) (h : c.floorBar = false) : c.clearBar v = c := by
  unfold Corner.clearBar
  split
  · rw [← h]
  · rfl

/-- The bar is cleared within the deadband (R153). -/
theorem Corner.clearBar_within {c : Corner} {v : CornerView} (h : c.within (deadband v.still) = true) :
    (c.clearBar v).floorBar = false := by
  rw [Corner.clearBar, if_pos (by simp [h])]

@[simp] theorem Corner.withTravel_frame (c : Corner) (b : Bool) :
    (c.withTravel b).history = c.history ∧ (c.withTravel b).height = c.height ∧ (c.withTravel b).target = c.target ∧
    (c.withTravel b).phase = c.phase ∧ (c.withTravel b).pulseStart = c.pulseStart ∧
    (c.withTravel b).pulseHeight = c.pulseHeight ∧ (c.withTravel b).unchecked = c.unchecked ∧
    (c.withTravel b).closureEnd = c.closureEnd ∧ (c.withTravel b).settleStart = c.settleStart ∧
    (c.withTravel b).progress = c.progress ∧ (c.withTravel b).cause = c.cause ∧
    (c.withTravel b).floorBar = c.floorBar ∧
    (c.withTravel b).fillValve = c.fillValve ∧ (c.withTravel b).exhaustValve = c.exhaustValve :=
  ⟨rfl, rfl, rfl, rfl, rfl, rfl, rfl, rfl, rfl, rfl, rfl, rfl, rfl, rfl⟩

@[simp] theorem Corner.toFault_frame (c : Corner) (k : FaultCause) :
    (c.toFault k).history = c.history ∧ (c.toFault k).height = c.height ∧ (c.toFault k).target = c.target ∧
    (c.toFault k).phase = .fault ∧ (c.toFault k).pulseStart = c.pulseStart ∧
    (c.toFault k).pulseHeight = c.pulseHeight ∧ (c.toFault k).unchecked = c.unchecked ∧
    (c.toFault k).closureEnd = c.closureEnd ∧ (c.toFault k).settleStart = c.settleStart ∧
    (c.toFault k).progress = c.progress ∧ (c.toFault k).cause = k ∧
    (c.toFault k).fillValve = false ∧ (c.toFault k).exhaustValve = false :=
  ⟨rfl, rfl, rfl, rfl, rfl, rfl, rfl, rfl, rfl, rfl, rfl, rfl, rfl⟩

/-! ### The step of each phase, on a height channel with a value (R153 to R156) -/

section
variable {c : Corner} {v : CornerView}

/-- A corner whose height channel presents no value goes to FAULT of cause CHANNEL, and one in FAULT stays (R156). -/
theorem Corner.phaseStep_unseen (hs : v.seen = false) :
    c.phaseStep v = if c.phase = .fault then c else c.toFault .channel := by
  unfold Corner.phaseStep
  cases hp : c.phase <;> simp only [hs, Bool.false_eq_true, if_false, reduceCtorEq, if_true]
  case fault =>
    have : c.mayLeave v = false := by cases hc : c.cause <;> simp [Corner.mayLeave, hc, hs]
    simp [Corner.faultStep, this]

theorem Corner.phaseStep_fault_leaves (hp : c.phase = .fault) (hl : c.mayLeave v = true) :
    c.phaseStep v = { c with phase := .settling, settleStart := some v.now, progress := 0, cause := .none } := by
  simp only [Corner.phaseStep, hp, Corner.faultStep, if_pos hl]

theorem Corner.phaseStep_fault_stays (hp : c.phase = .fault) (hl : c.mayLeave v = false) : c.phaseStep v = c := by
  simp [Corner.phaseStep, hp, Corner.faultStep, hl]

variable (hs : v.seen = true)
include hs

theorem Corner.phaseStep_closing (hp : c.phase = .closing) : c.phaseStep v = c := by
  simp only [Corner.phaseStep, hp, if_pos hs]

/-- No pulse opens where none may. -/
theorem Corner.phaseStep_steady_rests (hp : c.phase = .steady) (hm : v.mayOpen = false) : c.phaseStep v = c := by
  simp [Corner.phaseStep, hp, hs, Corner.steadyStep, hm]

section
variable {h : Int} (hh : c.height = some h) (hm : v.mayOpen = true)
include hh hm

theorem Corner.phaseStep_fills (hp : c.phase = .steady) (he : h - c.target < -deadband v.still) :
    c.phaseStep v = c.openFill v.now := by
  simp only [Corner.phaseStep, hp, hs, if_true, Corner.steadyStep, Corner.errorIs_eq hh, hm, Bool.true_and, decide_eq_true he]

theorem Corner.phaseStep_high (hp : c.phase = .steady) (he : deadband v.still < h - c.target) :
    c.phaseStep v = if v.atFloor then { c with floorBar := true } else c.openExhaust v.now := by
  have low : ¬h - c.target < -deadband v.still := by have := deadband_pos v.still; omega
  simp only [Corner.phaseStep, hp, hs, if_true, Corner.steadyStep, Corner.errorIs_eq hh, hm, Bool.true_and,
    decide_eq_true he, decide_eq_false low, Bool.false_eq_true, if_false]

theorem Corner.phaseStep_level (hp : c.phase = .steady) (hlo : -deadband v.still ≤ h - c.target)
    (hhi : h - c.target ≤ deadband v.still) : c.phaseStep v = c := by
  simp only [Corner.phaseStep, hp, hs, if_true, Corner.steadyStep, Corner.errorIs_eq hh, hm, Bool.true_and,
    decide_eq_false (not_lt.mpr hlo), decide_eq_false (not_lt.mpr hhi), Bool.false_eq_true, if_false]

end

section
variable {h : Int} (hh : c.height = some h)
include hh

theorem Corner.phaseStep_filling (hp : c.phase = .filling) : c.phaseStep v =
    if -halfBand v.still ≤ h - c.target ∨ c.pulseOver v.now = true then c.close v.now else c := by
  simp only [Corner.phaseStep, hp, hs, if_true, Corner.fillingStep, Corner.errorIs_eq hh, Bool.or_eq_true,
    decide_eq_true_eq]

theorem Corner.phaseStep_exhausting (hp : c.phase = .exhausting) : c.phaseStep v =
    if (h - c.target ≤ halfBand v.still ∨ v.atFloor = true) ∨ c.pulseOver v.now = true then c.close v.now else c := by
  simp only [Corner.phaseStep, hp, hs, if_true, Corner.exhaustingStep, Corner.errorIs_eq hh, Bool.or_eq_true,
    decide_eq_true_eq]

end

theorem Corner.phaseStep_settles (hp : c.phase = .settling) (h : c.settled v.now = true) (hn : c.checkedProgress < 4) :
    c.phaseStep v = { c with phase := .steady, progress := c.checkedProgress, unchecked := false } := by
  have limit : ¬Config.progressLimit ≤ c.checkedProgress := not_le.mpr hn
  simp only [Corner.phaseStep, hp, hs, if_true, Corner.settlingStep, h, if_neg limit]

theorem Corner.phaseStep_timesOut (hp : c.phase = .settling) (h : c.settled v.now = true) (hn : 4 ≤ c.checkedProgress) :
    c.phaseStep v = { c.toFault .timeout with progress := 4, unchecked := false } := by
  have limit : Config.progressLimit ≤ c.checkedProgress := hn
  simp only [Corner.phaseStep, hp, hs, if_true, Corner.settlingStep, h, if_pos limit]
  rfl

/-- A corner with a height channel's value enters FAULT by the end of its settle time alone (R155). -/
theorem Corner.phaseStep_enters_fault (hp : c.phase ≠ .fault) (hf : (c.phaseStep v).phase = .fault) :
    c.phase = .settling ∧ c.settled v.now = true := by
  unfold Corner.phaseStep at hf
  cases hc : c.phase <;> simp only [hc, hs, if_true] at hf
  case fault => exact absurd hc hp
  case steady =>
    unfold Corner.steadyStep at hf
    (repeat' split at hf) <;> simp [Corner.openFill, Corner.openExhaust, hc] at hf
  case filling =>
    unfold Corner.fillingStep at hf
    split at hf <;> simp [Corner.close, hc] at hf
  case exhausting =>
    unfold Corner.exhaustingStep at hf
    split at hf <;> simp [Corner.close, hc] at hf
  case closing => simp at hf
  case settling =>
    refine ⟨rfl, ?_⟩
    cases h : c.settled v.now
    · simp [Corner.settlingStep, h, hc] at hf
    · rfl

end

/-- A step keeps the history, the height and the target, a pulse's items but where one opens, and the mark of the
progress check but there and where it is made (R152 to R155). -/
theorem Corner.phaseStep_keeps (c : Corner) (v : CornerView) :
    (c.phaseStep v).history = c.history ∧ (c.phaseStep v).height = c.height ∧ (c.phaseStep v).target = c.target ∧
    (c.phase ≠ .steady → (c.phaseStep v).pulseStart = c.pulseStart ∧ (c.phaseStep v).pulseHeight = c.pulseHeight) ∧
    (c.phase ≠ .steady → c.phase ≠ .settling → (c.phaseStep v).unchecked = c.unchecked) := by
  cases hs : v.seen with
  | false =>
    rw [Corner.phaseStep_unseen hs]
    split <;> simp
  | true =>
    unfold Corner.phaseStep
    cases hp : c.phase <;> simp only [hs, if_true]
    case fault => unfold Corner.faultStep; split <;> simp
    case steady => unfold Corner.steadyStep; (repeat' split) <;> simp [Corner.openFill, Corner.openExhaust]
    case filling => unfold Corner.fillingStep; split <;> simp [Corner.close]
    case exhausting => unfold Corner.exhaustingStep; split <;> simp [Corner.close]
    case closing => simp
    case settling => unfold Corner.settlingStep; (repeat' split) <;> simp

/-- Where no pulse may open, a step opens no valve, starts no pulse, and enters neither FILLING nor EXHAUSTING (R164). -/
theorem Corner.phaseStep_opens_none (c : Corner) {v : CornerView} (hm : v.mayOpen = false) :
    (c.fillValve = false → (c.phaseStep v).fillValve = false) ∧
    (c.exhaustValve = false → (c.phaseStep v).exhaustValve = false) ∧ (c.phaseStep v).pulseStart = c.pulseStart ∧
    ((c.phaseStep v).phase = .filling → c.phase = .filling) ∧
    ((c.phaseStep v).phase = .exhausting → c.phase = .exhausting) := by
  cases hs : v.seen with
  | false =>
    rw [Corner.phaseStep_unseen hs]
    split <;> simp
  | true =>
    unfold Corner.phaseStep
    cases hp : c.phase <;> simp only [hs, if_true]
    case fault => unfold Corner.faultStep; split <;> simp [hp]
    case steady => simp [Corner.steadyStep, hm, hp]
    case filling => unfold Corner.fillingStep; split <;> simp [Corner.close, hp]
    case exhausting => unfold Corner.exhaustingStep; split <;> simp [Corner.close, hp]
    case closing => simp [hp]
    case settling => unfold Corner.settlingStep; (repeat' split) <;> simp [hp]

/-! ### A corner of a level update (R151) -/

/-- A corner as the update's sample and kneel step leave it for its own step (R152, R159). -/
def State.cornerRead (s : State) (skirt acted : Bool) (x : Side) : Corner :=
  { (s.lu.corner x).sample (s.heightValue x) s.standstill with
    target := s.sc.prof.cornerTarget (s.kneelStep skirt acted).1 (s.kneelStep skirt acted).2 x }

@[simp] theorem Corner.sample_frame (c : Corner) (a : Option Int) (b : Bool) :
    (c.sample a b).target = c.target ∧ (c.sample a b).phase = c.phase ∧ (c.sample a b).pulseStart = c.pulseStart ∧
    (c.sample a b).pulseHeight = c.pulseHeight ∧ (c.sample a b).unchecked = c.unchecked ∧
    (c.sample a b).closureEnd = c.closureEnd ∧ (c.sample a b).settleStart = c.settleStart ∧
    (c.sample a b).progress = c.progress ∧ (c.sample a b).cause = c.cause ∧ (c.sample a b).floorBar = c.floorBar ∧
    (c.sample a b).fillValve = c.fillValve ∧ (c.sample a b).exhaustValve = c.exhaustValve := by
  cases a <;> exact ⟨rfl, rfl, rfl, rfl, rfl, rfl, rfl, rfl, rfl, rfl, rfl, rfl⟩

section
variable (s : State) (skirt acted : Bool) (x : Side)

@[simp] theorem State.cornerRead_frame :
    (s.cornerRead skirt acted x).phase = (s.lu.corner x).phase ∧
    (s.cornerRead skirt acted x).pulseStart = (s.lu.corner x).pulseStart ∧
    (s.cornerRead skirt acted x).pulseHeight = (s.lu.corner x).pulseHeight ∧
    (s.cornerRead skirt acted x).unchecked = (s.lu.corner x).unchecked ∧
    (s.cornerRead skirt acted x).closureEnd = (s.lu.corner x).closureEnd ∧
    (s.cornerRead skirt acted x).settleStart = (s.lu.corner x).settleStart ∧
    (s.cornerRead skirt acted x).progress = (s.lu.corner x).progress ∧
    (s.cornerRead skirt acted x).cause = (s.lu.corner x).cause ∧
    (s.cornerRead skirt acted x).floorBar = (s.lu.corner x).floorBar ∧
    (s.cornerRead skirt acted x).fillValve = (s.lu.corner x).fillValve ∧
    (s.cornerRead skirt acted x).exhaustValve = (s.lu.corner x).exhaustValve := by
  simp [State.cornerRead]

/-- A corner after its step. -/
def State.cornerStepped : Corner :=
  (s.cornerRead skirt acted x).step (s.cornerView x) (s.lu.restartFault && s.lu.levelLatch)

/-- A corner after an update: stepped, with its travel remaining. -/
theorem State.levelAfter_corner : ∃ named, (s.levelAfter skirt acted).corner x =
    (s.cornerStepped skirt acted x).withTravel named := by
  cases x <;> exact ⟨_, rfl⟩

/-- The step of a corner at an update that no restart's latch faults (R165). -/
theorem State.cornerStepped_phaseStep (h : (s.lu.restartFault && s.lu.levelLatch) = false) :
    s.cornerStepped skirt acted x =
      ((s.cornerRead skirt acted x).clearBar (s.cornerView x)).phaseStep (s.cornerView x) := by
  rw [State.cornerStepped, h]
  rfl

/-- At the first update after a restart that kept the LEVEL latch it goes to FAULT (R165). -/
theorem State.cornerStepped_restart (h : (s.lu.restartFault && s.lu.levelLatch) = true) :
    s.cornerStepped skirt acted x = ((s.cornerRead skirt acted x).clearBar (s.cornerView x)).toFault .timeout := by
  rw [State.cornerStepped, h]
  rfl

theorem State.cornerStepped_target :
    (s.cornerStepped skirt acted x).target =
      s.sc.prof.cornerTarget (s.kneelStep skirt acted).1 (s.kneelStep skirt acted).2 x ∧
    (s.cornerStepped skirt acted x).height = ((s.lu.corner x).sample (s.heightValue x) s.standstill).height := by
  cases h : s.lu.restartFault && s.lu.levelLatch with
  | true => rw [State.cornerStepped_restart _ _ _ _ h]; simp [State.cornerRead]
  | false =>
    rw [State.cornerStepped_phaseStep _ _ _ _ h]
    simp [Corner.phaseStep_keeps, State.cornerRead]

/-! ### The kneel phase, the level state and the latch after an update -/

/-- A corner enters FAULT in an update. -/
def State.cornerFaults : Prop :=
  ∃ x, (s.lu.corner x).phase ≠ .fault ∧ (s.cornerStepped skirt acted x).phase = .fault

/-- A corner that enters FAULT ends a kneel in RAISING, but for a pending abort (R161). -/
theorem State.levelAfter_ends (hk : (s.kneelStep skirt acted).1.lowered = true) (ha : s.lu.abort = false)
    (hf : s.cornerFaults skirt acted) :
    (s.levelAfter skirt acted).kneel = .raising ∧ (s.levelAfter skirt acted).sides = .none := by
  have enters : (entersFault (s.cornerRead skirt acted .left) (s.cornerStepped skirt acted .left) ||
      entersFault (s.cornerRead skirt acted .right) (s.cornerStepped skirt acted .right)) = true := by
    obtain ⟨x | x, hp, hs⟩ := hf
    · simp [entersFault, show s.lu.left.phase ≠ .fault from hp, hs, LevelUnit.corner]
    · simp [entersFault, show s.lu.right.phase ≠ .fault from hp, hs, LevelUnit.corner]
  have both : ((entersFault (s.cornerRead skirt acted .left) (s.cornerStepped skirt acted .left) ||
      entersFault (s.cornerRead skirt acted .right) (s.cornerStepped skirt acted .right)) &&
      (s.kneelStep skirt acted).1.lowered && !s.lu.abort) = true := by rw [enters, hk, ha]; rfl
  exact ⟨if_pos both, if_pos both⟩

/-- Otherwise the kneel phase and the sides are those of the kneel step. -/
theorem State.levelAfter_holds
    (h : ((s.kneelStep skirt acted).1.lowered = false ∨ s.lu.abort = true) ∨ ¬s.cornerFaults skirt acted) :
    (s.levelAfter skirt acted).kneel = (s.kneelStep skirt acted).1 ∧
    (s.levelAfter skirt acted).sides = (s.kneelStep skirt acted).2 := by
  have none : ((entersFault (s.cornerRead skirt acted .left) (s.cornerStepped skirt acted .left) ||
      entersFault (s.cornerRead skirt acted .right) (s.cornerStepped skirt acted .right)) &&
      (s.kneelStep skirt acted).1.lowered && !s.lu.abort) = false := by
    obtain (h | h) | h := h
    · simp [h]
    · simp [h]
    · have off (x : Side) : entersFault (s.cornerRead skirt acted x) (s.cornerStepped skirt acted x) = false := by
        simp only [entersFault, Bool.and_eq_false_iff, decide_eq_false_iff_not, State.cornerRead_frame]
        by_contra hc
        push Not at hc
        exact h ⟨x, hc⟩
      simp [off]
  exact ⟨if_neg (by rw [Bool.not_eq_true]; exact none), if_neg (by rw [Bool.not_eq_true]; exact none)⟩

/-- The level state reads FAULT while a corner stands in FAULT (R157). -/
theorem State.levelAfter_level_fault (h : ((s.levelAfter skirt acted).corner x).phase = .fault) :
    (s.levelAfter skirt acted).level = .fault := by
  refine if_pos ?_
  cases x
  · exact .inl h
  · exact .inr h

/-- Otherwise it follows the kneel phase (R157). -/
theorem State.levelAfter_level (h : ∀ x, ((s.levelAfter skirt acted).corner x).phase ≠ .fault) :
    (s.levelAfter skirt acted).level =
      match (s.levelAfter skirt acted).kneel with
      | .kneeling => .kneeling
      | .knelt => .knelt
      | .raising => .raising
      | .none =>
        if (s.levelAfter skirt acted).left.phase = .steady ∧ (s.levelAfter skirt acted).right.phase = .steady ∧
            (s.levelAfter skirt acted).left.atTarget (deadband s.standstill) = true ∧
            (s.levelAfter skirt acted).right.atTarget (deadband s.standstill) = true then .ride
        else .levelling := by
  have out : ¬((s.levelAfter skirt acted).left.phase = .fault ∨ (s.levelAfter skirt acted).right.phase = .fault) :=
    not_or.mpr ⟨h .left, h .right⟩
  exact if_neg out

end

/-! ### The state after an update -/

/-- A level update without a contact that acts. -/
theorem levelUpdate_of_quiet {skirt : Bool} {s : State} (h : skirt = false ∨ s.skirtListens = false) :
    levelUpdate skirt s = levelStep skirt false s := by
  refine if_neg ?_
  obtain h | h := h <;> simp [h]

theorem levelUpdate_of_contact {s : State} (h : s.skirtListens = true) :
    levelUpdate true s = levelStep true true (skirtContact s) :=
  if_pos (by simp [h])

/-- A kneel phase that freezes the load before and after leaves the brake unit (R111). -/
theorem State.setLevel_bu_of_freezes {s : State} {l : LevelUnit} (h : s.lu.kneel.freezes = l.kneel.freezes) :
    (s.setLevel l).bu = s.bu := by
  simp [State.setLevel, h]

/-- The load is frozen as a kneel begins (R111). -/
theorem State.setLevel_bu_of_begins {s : State} {l : LevelUnit} (h : s.lu.kneel.freezes = false)
    (h' : l.kneel.freezes = true) : (s.setLevel l).bu = { s.bu with frozen := some s.loadInUse } := by
  simp [State.setLevel, h, h']

/-- The freeze ends with the kneel (R111). -/
theorem State.setLevel_bu_of_ends {s : State} {l : LevelUnit} (h : s.lu.kneel.freezes = true)
    (h' : l.kneel.freezes = false) : (s.setLevel l).bu = { s.bu with frozen := none } := by
  simp [State.setLevel, h, h']

@[simp] theorem levelStep_sched (skirt acted : Bool) (s : State) : (levelStep skirt acted s).sched =
    { s.sched with level := some (later s.now (if s.standstill then 50000 else 250000)) } := by
  simp only [levelStep, State.raiseIf_eq]
  rfl

theorem levelStep_li (skirt acted : Bool) (s : State) :
    (levelStep skirt acted s).li = (s.raiseIf (s.cornerTimesOut skirt acted) .levelTimeout).li := by
  simp only [levelStep, State.raiseIf_eq]
  rfl

end Sys2Proof.Machine
end

section
/-! PROOF. Kneeling (R158 to R164): the kneel phase of a level update, the closures, the abort and the skirt contact. -/

namespace Sys2Proof.Machine

/-! ### The step of the kneel phase (R158, R160, R161) -/

section
variable {s : State} {skirt acted : Bool}

/-- It rests in LISTENING, under a pending abort, and where the contact acted (R164; log entry 16). -/
theorem State.kneelStep_rests (h : s.drives = false ∨ s.lu.abort = true ∨ acted = true) :
    s.kneelStep skirt acted = (s.lu.kneel, s.lu.sides) := by
  refine if_pos ?_
  obtain h | h | h := h
  · simp [h]
  · simp [State.latchedLevel, State.sampledLevel, h]
  · simp [h]

variable (hd : s.drives = true) (ha : s.lu.abort = false)
include hd ha

/-- Elsewhere it is the transition of its phase. -/
theorem State.kneelStep_of_drives : s.kneelStep skirt false =
    match s.lu.kneel with
    | .kneeling =>
      if s.effectiveDemand.kneel = .none then (.raising, .none)
      else if s.latchedLevel.lowEnough then (.knelt, s.lu.sides) else (.kneeling, s.lu.sides)
    | .knelt => if s.effectiveDemand.kneel = .none then (.raising, .none) else (.knelt, s.lu.sides)
    | .none => if s.kneelBegins skirt then (.kneeling, s.effectiveDemand.kneel) else (.none, s.lu.sides)
    | .raising =>
      if s.kneelBegins skirt then (.kneeling, s.effectiveDemand.kneel)
      else if s.bodyUp s.latchedLevel then (.none, s.lu.sides)
      else (.raising, s.lu.sides) := by
  refine if_neg ?_
  simp [State.latchedLevel, State.sampledLevel, hd, ha]

theorem State.kneelStep_kneels (hk : s.lu.kneel = .none ∨ s.lu.kneel = .raising) (hb : s.kneelBegins skirt = true) :
    s.kneelStep skirt false = (.kneeling, s.effectiveDemand.kneel) := by
  rw [State.kneelStep_of_drives hd ha]
  obtain hk | hk := hk <;> simp only [hk, hb, if_true]

theorem State.kneelStep_withdrawn (hk : s.lu.kneel = .kneeling ∨ s.lu.kneel = .knelt)
    (hq : s.effectiveDemand.kneel = .none) : s.kneelStep skirt false = (.raising, .none) := by
  rw [State.kneelStep_of_drives hd ha]
  obtain hk | hk := hk <;> simp only [hk, hq, if_true]

theorem State.kneelStep_kneeling (hk : s.lu.kneel = .kneeling) (hq : s.effectiveDemand.kneel ≠ .none) :
    s.kneelStep skirt false = (if s.latchedLevel.lowEnough then .knelt else .kneeling, s.lu.sides) := by
  rw [State.kneelStep_of_drives hd ha]
  simp only [hk, if_neg hq]
  split <;> rfl

theorem State.kneelStep_knelt (hk : s.lu.kneel = .knelt) (hq : s.effectiveDemand.kneel ≠ .none) :
    s.kneelStep skirt false = (.knelt, s.lu.sides) := by
  rw [State.kneelStep_of_drives hd ha]
  simp only [hk, if_neg hq]

theorem State.kneelStep_none (hk : s.lu.kneel = .none) (hq : s.effectiveDemand.kneel = .none) :
    s.kneelStep skirt false = (.none, s.lu.sides) := by
  have hb : s.kneelBegins skirt = false := by simp [State.kneelBegins, hq]
  rw [State.kneelStep_of_drives hd ha]
  simp [hk, hb]

theorem State.kneelStep_raising (hk : s.lu.kneel = .raising) (hq : s.effectiveDemand.kneel = .none)
    (hu : s.bodyUp s.latchedLevel = true) : s.kneelStep skirt false = (.none, s.lu.sides) := by
  have hb : s.kneelBegins skirt = false := by simp [State.kneelBegins, hq]
  rw [State.kneelStep_of_drives hd ha]
  simp [hk, hb, hu]

end

/-! ### The targets (R159) -/

/-- Out of a kneel every corner has the ride height. -/
theorem Profile.cornerTarget_ride (p : Profile) {k : KneelPhase} (q : KneelRequest) (x : Side) (h : k.lowered = false) :
    p.cornerTarget k q x = p.rideHeight := by
  simp [Profile.cornerTarget, h]

theorem Profile.cornerTarget_lowered (p : Profile) {k : KneelPhase} (q : KneelRequest) (x : Side) (h : k.lowered = true) :
    p.cornerTarget k q x = if q.names x then p.kneelTarget else p.rideHeight := by
  simp [Profile.cornerTarget, h]

/-- The target and the height of a corner after an update. -/
theorem State.levelAfter_target (s : State) (skirt acted : Bool) (x : Side) :
    ((s.levelAfter skirt acted).corner x).target =
      s.sc.prof.cornerTarget (s.kneelStep skirt acted).1 (s.kneelStep skirt acted).2 x ∧
    ((s.levelAfter skirt acted).corner x).height = ((s.lu.corner x).sample (s.heightValue x) s.standstill).height := by
  obtain ⟨named, e⟩ := s.levelAfter_corner skirt acted x
  rw [e]
  exact State.cornerStepped_target ..

theorem State.levelAfter_phase (s : State) (skirt acted : Bool) (x : Side) :
    ((s.levelAfter skirt acted).corner x).phase = (s.cornerStepped skirt acted x).phase := by
  obtain ⟨named, e⟩ := s.levelAfter_corner skirt acted x
  rw [e]
  simp

/-- At STANDSTILL the height is the newest sample (R152). -/
theorem Corner.sample_still (c : Corner) (a : Int) : (c.sample (some a) true).height = some a := rfl

/-- A corner with a value enters FAULT at an update by the end of its settle time alone (R155). -/
theorem State.cornerStepped_fault {s : State} {skirt acted : Bool} {x : Side}
    (hr : (s.lu.restartFault && s.lu.levelLatch) = false) (hv : (s.heightValue x).isSome = true)
    (hp : (s.lu.corner x).phase ≠ .fault) (hf : (s.cornerStepped skirt acted x).phase = .fault) :
    (s.lu.corner x).phase = .settling ∧ lasted (s.lu.corner x).settleStart 300000 s.now = true := by
  rw [State.cornerStepped_phaseStep _ _ _ _ hr] at hf
  have := Corner.phaseStep_enters_fault (v := s.cornerView x) hv (by simpa using hp) hf
  simpa [Corner.settled, Config.settleTime, State.cornerView] using this

/-- Both corners are within a band or at their floor, on the heights read at STANDSTILL (R157, R160, R161). -/
theorem Corner.atTarget_iff {c : Corner} {h : Int} (hh : c.height = some h) (band : Int) :
    c.atTarget band = true ↔ ((h - c.target).natAbs : Int) ≤ band ∨ c.floorBar = true := by
  rw [Corner.atTarget, Bool.or_eq_true, Corner.within_iff hh]

/-- The named corners down, on the heights of the update (R160). -/
theorem LevelUnit.lowEnough_iff {l : LevelUnit} {a b : Int} (ha : l.left.height = some a) (hb : l.right.height = some b) :
    l.lowEnough = true ↔
      (l.sides.names .left = true → (a - l.left.target).natAbs ≤ 5 ∨ l.left.floorBar = true) ∧
      (l.sides.names .right = true → (b - l.right.target).natAbs ≤ 5 ∨ l.right.floorBar = true) := by
  have band (n : Nat) : ((n : Int) ≤ Config.kneltBand) ↔ n ≤ 5 := Int.ofNat_le (m := n) (n := 5)
  simp only [LevelUnit.lowEnough, Bool.and_eq_true, Bool.or_eq_true, Bool.not_eq_true', Corner.atTarget_iff ha,
    Corner.atTarget_iff hb, band, imp_iff_not_or, Bool.not_eq_true]

/-- Both corners up, on the heights of an update at STANDSTILL (R161). -/
theorem Corner.atRide_of {c : Corner} {h : Int} {ride : Nat} (hh : c.height = some h) (hp : c.phase = .steady)
    (hb : (h - ride).natAbs ≤ 4 ∨ c.floorBar = true) : c.atRide ride 4 = true := by
  rw [Corner.atRide, decide_eq_true hp, Bool.true_and, Corner.atTarget_iff (c := { c with target := (ride : Int) }) hh]
  exact hb.imp Int.ofNat_le.mpr id

/-- A STEADY corner within its deadband stays so at an update (R153, R157). -/
theorem State.levelAfter_within {s : State} {skirt acted : Bool} {x : Side} {h : Int}
    (hr : (s.lu.restartFault && s.lu.levelLatch) = false) (hv : (s.heightValue x).isSome = true)
    (hp : (s.lu.corner x).phase = .steady)
    (hh : ((s.lu.corner x).sample (s.heightValue x) s.standstill).height = some h)
    (hb : ((h - s.sc.prof.cornerTarget (s.kneelStep skirt acted).1 (s.kneelStep skirt acted).2 x).natAbs : Int) ≤
      deadband s.standstill) :
    ((s.levelAfter skirt acted).corner x).phase = .steady ∧
    ((s.levelAfter skirt acted).corner x).atTarget (deadband s.standstill) = true := by
  obtain ⟨target, height⟩ := s.levelAfter_target skirt acted x
  refine ⟨?_, (Corner.atTarget_iff (height.trans hh) _).mpr (.inl (by rw [target]; exact hb))⟩
  rw [State.levelAfter_phase, State.cornerStepped_phaseStep _ _ _ _ hr]
  have hp' : ((s.cornerRead skirt acted x).clearBar (s.cornerView x)).phase = .steady := by simpa using hp
  cases hm : (s.cornerView x).mayOpen with
  | false => rw [Corner.phaseStep_steady_rests hv hp' hm, hp']
  | true =>
    have hh' : ((s.cornerRead skirt acted x).clearBar (s.cornerView x)).height = some h := by
      simpa [State.cornerRead] using hh
    have ht : ((s.cornerRead skirt acted x).clearBar (s.cornerView x)).target =
        s.sc.prof.cornerTarget (s.kneelStep skirt acted).1 (s.kneelStep skirt acted).2 x := by simp [State.cornerRead]
    have still : (s.cornerView x).still = s.standstill := rfl
    rw [Corner.phaseStep_level hv hh' hm hp' (by rw [ht, still]; omega) (by rw [ht, still]; omega), hp']

/-- A level update read without the contact, and the brake unit it leaves. -/
theorem levelUpdate_false (s : State) : levelUpdate false s = levelStep false false s :=
  levelUpdate_of_quiet (.inl rfl)

/-- Settles O41: the kneel step of each phase, and what the corners' step leaves of it. -/
theorem kneelBegins : Obligations.KneelBegins := by
  refine ⟨?begins, ?withdrawn, ?moves⟩
  case begins =>
    intro dt a b s u q low hp hdue hdrives hk hq hheld hstill hlatch habort hrestart ha hb hl hr
    have hd : u.drives = true := (State.elapse_drives ..).trans hdrives
    have lu : u.lu = s.lu := by simp [u]
    have bu : u.bu = s.bu := by simp [u]
    have hu : u.hu = s.hu := by simp [u]
    have sc : u.sc = s.sc := by simp [u]
    have sched : u.sched = s.sched := by simp [u]
    have left : u.heightValue .left = some a := by simpa [u, State.heightValue, heightChannel] using ha
    have right : u.heightValue .right = some b := by simpa [u, State.heightValue, heightChannel] using hb
    refine ⟨levelUpdate false u, runWhen_ready hp hdue, ?_⟩
    clear_value u
    rw [levelUpdate_false, levelStep_lu, levelStep_bu, levelStep_sched, hstill, sched]
    rw [← lu] at hk hlatch habort hrestart hl hr
    have step : u.kneelStep false false = (.kneeling, q) :=
      State.kneelStep_kneels hd habort hk
        ((u.kneelBegins_iff false).mpr ⟨hq, hu ▸ hheld, hstill, hlatch, habort, rfl, hl, hr⟩)
    have plain : (u.lu.restartFault && u.lu.levelLatch) = false := by rw [hrestart]; rfl
    have outOfFault (x : Side) : (u.lu.corner x).phase ≠ .fault := by cases x; exacts [hl, hr]
    have target (x : Side) : ((u.levelAfter false false).corner x).target =
        if q.names x then low else s.sc.prof.rideHeight := by
      rw [(u.levelAfter_target ..).1, step, Profile.cornerTarget_lowered _ _ _ rfl, sc]
      rfl
    have faults : (∃ x, ((u.levelAfter false false).corner x).phase = .fault) ↔ u.cornerFaults false false := by
      simp [State.cornerFaults, State.levelAfter_phase, outOfFault]
    have raised : u.cornerFaults false false → (u.levelAfter false false).kneel = .raising ∧
        (u.levelAfter false false).sides = .none := State.levelAfter_ends _ _ _ (by rw [step]; rfl) habort
    have kept : ¬u.cornerFaults false false → (u.levelAfter false false).kneel = .kneeling ∧
        (u.levelAfter false false).sides = q := fun h => by
      have := u.levelAfter_holds false false (.inr h)
      rwa [step] at this
    have freezes : (u.levelAfter false false).kneel.freezes = true := by
      by_cases h : u.cornerFaults false false
      · rw [(raised h).1]; rfl
      · rw [(kept h).1]; rfl
    refine ⟨⟨fun hn => ?_, fun hf => ?_⟩, fun x hx => ?_, target .left, target .right, ?_, ?_, fun h => ?_, fun h => ?_, rfl⟩
    · obtain ⟨hkneel, hsides⟩ := kept (mt faults.mpr hn)
      refine ⟨hkneel, hsides, ?_⟩
      rw [State.levelAfter_level _ _ _ (not_exists.mp hn), hkneel]
    · obtain ⟨hkneel, hsides⟩ := raised (faults.mp hf)
      obtain ⟨x, hx⟩ := hf
      exact ⟨hkneel, hsides, State.levelAfter_level_fault _ _ _ x hx⟩
    · rw [State.levelAfter_phase] at hx
      rw [← lu]
      refine State.cornerStepped_fault plain ?_ (outOfFault x) hx
      cases x
      · rw [left]; rfl
      · rw [right]; rfl
    · refine (u.levelAfter_target false false .left).2.trans ?_
      rw [left, hstill, Corner.sample_still]
    · refine (u.levelAfter_target false false .right).2.trans ?_
      rw [right, hstill, Corner.sample_still]
    · rw [State.setLevel_bu_of_begins (by rw [lu, h]; rfl) freezes]
    · rw [State.setLevel_bu_of_freezes (by rw [freezes, lu, h]; rfl), bu]
  case withdrawn =>
    intro dt s u hp hdue hdrives habort hk hq
    have hd : u.drives = true := (State.elapse_drives ..).trans hdrives
    have lu : u.lu = s.lu := by simp [u]
    have bu : u.bu = s.bu := by simp [u]
    have sc : u.sc = s.sc := by simp [u]
    refine ⟨levelUpdate false u, runWhen_ready hp hdue, ?_⟩
    clear_value u
    rw [levelUpdate_false, levelStep_lu, levelStep_bu]
    rw [← lu] at hk habort
    have step : u.kneelStep false false = (.raising, .none) := State.kneelStep_withdrawn hd habort hk hq
    obtain ⟨hkneel, hsides⟩ := u.levelAfter_holds false false (.inl (.inl (by rw [step]; rfl)))
    rw [step] at hkneel hsides
    have target (x : Side) : ((u.levelAfter false false).corner x).target = s.sc.prof.rideHeight := by
      rw [(u.levelAfter_target ..).1, step, Profile.cornerTarget_ride _ _ _ rfl, sc]
    refine ⟨hkneel, hsides, target .left, target .right, ?_⟩
    rw [State.setLevel_bu_of_freezes, bu]
    rw [hkneel]
    obtain h | h := hk <;> rw [h] <;> rfl
  case moves =>
    intro dt a b s u hp hdue hdrives habort hstill ha hb
    have hd : u.drives = true := (State.elapse_drives ..).trans hdrives
    have lu : u.lu = s.lu := by simp [u]
    have bu : u.bu = s.bu := by simp [u]
    have sc : u.sc = s.sc := by simp [u]
    have left : u.heightValue .left = some a := by simpa [u, State.heightValue, heightChannel] using ha
    have right : u.heightValue .right = some b := by simpa [u, State.heightValue, heightChannel] using hb
    have ran : exec (.levelUpdate dt false) s = .next (levelUpdate false u) := runWhen_ready hp hdue
    clear_value u
    rw [levelUpdate_false] at ran
    rw [← lu] at habort
    have la : u.latchedLevel.left.height = some a := by
      change (u.lu.left.sample _ _).height = _
      rw [left, hstill, Corner.sample_still]
    have lb : u.latchedLevel.right.height = some b := by
      change (u.lu.right.sample _ _).height = _
      rw [right, hstill, Corner.sample_still]
    refine ⟨?down, fun hk hq hrestart hl hr hal har => ⟨_, ran, ?_⟩⟩
    case down =>
      intro hk hq down
      rw [← lu] at hk
      have hdown : u.latchedLevel.lowEnough = true ↔ down := by
        rw [LevelUnit.lowEnough_iff la lb]
        simp only [down, ← lu]
        simp [State.latchedLevel, State.sampledLevel]
      have step := State.kneelStep_kneeling (skirt := false) hd habort hk hq
      refine ⟨_, ran, ?_, fun hno => ?_⟩
      · rw [levelStep_bu, State.setLevel_bu_of_freezes, bu]
        obtain h | h := u.levelAfter_kneel false false
        · rw [hk, h]; rfl
        · rw [hk, h.1, step]
          split <;> rfl
      · rw [levelStep_lu] at hno ⊢
        have calm : ¬u.cornerFaults false false := by
          rintro ⟨x, -, hx⟩
          exact hno x ((u.levelAfter_phase ..).trans hx)
        obtain ⟨hkneel, hsides⟩ := u.levelAfter_holds false false (.inr calm)
        rw [step] at hkneel hsides
        rw [State.levelAfter_level _ _ _ hno, hkneel, hsides, lu]
        refine ⟨rfl, fun h => ?_, fun h => ?_⟩
        · rw [if_pos (hdown.mpr h)]
          exact ⟨rfl, rfl⟩
        · rw [if_neg (mt hdown.mp h)]
          exact ⟨rfl, rfl⟩
    · rw [← lu] at hk hrestart hl hr hal har
      rw [← sc] at hal har ⊢
      have up : u.bodyUp u.latchedLevel = true := by
        rw [State.bodyUp, hstill, Bool.and_eq_true]
        exact ⟨Corner.atRide_of la (by simpa [State.latchedLevel, State.sampledLevel] using hl)
            (by simpa [State.latchedLevel, State.sampledLevel] using hal),
          Corner.atRide_of lb (by simpa [State.latchedLevel, State.sampledLevel] using hr)
            (by simpa [State.latchedLevel, State.sampledLevel] using har)⟩
      have step := State.kneelStep_raising (skirt := false) hd habort hk hq up
      obtain ⟨hkneel, -⟩ := u.levelAfter_holds false false (.inl (.inl (by rw [step]; rfl)))
      rw [step] at hkneel
      rw [levelStep_lu, levelStep_bu, State.setLevel_bu_of_ends (by rw [hk]; rfl) (by rw [hkneel]; rfl)]
      refine ⟨hkneel, rfl, fun h1 h2 => ?_⟩
      have within (x : Side) (c : Int) (hx : u.heightValue x = some c) (hp : (u.lu.corner x).phase = .steady)
          (hc : (c - u.sc.prof.rideHeight).natAbs ≤ 4) :=
        State.levelAfter_within (s := u) (skirt := false) (acted := false) (by rw [hrestart]; rfl) (by rw [hx]; rfl) hp
          (by rw [hx, hstill]; rfl)
          (by rw [step, Profile.cornerTarget_ride _ _ _ rfl, hstill]; exact Int.ofNat_le.mpr hc)
      obtain ⟨pl, tl⟩ := within .left a left hl h1
      obtain ⟨pr, tr⟩ := within .right b right hr h2
      rw [State.levelAfter_level, hkneel]
      · exact if_pos ⟨pl, pr, tl, tr⟩
      · intro x
        cases x
        · rw [pl]; simp
        · rw [pr]; simp

end Sys2Proof.Machine
end

section
/-! PROOF. The closures in flight, a pending abort and the skirt contact (R154, R162). -/

namespace Sys2Proof.Machine

/-! ### A pending abort (R162) -/

theorem LevelUnit.closureInFlight_iff (l : LevelUnit) :
    l.closureInFlight = true ↔ ∃ x, (l.corner x).closureEnd ≠ none := by
  rw [LevelUnit.closureInFlight, Bool.or_eq_true, Option.isSome_iff_ne_none, Option.isSome_iff_ne_none]
  exact ⟨fun h => h.elim (fun h => ⟨.left, h⟩) fun h => ⟨.right, h⟩,
    fun ⟨x, hx⟩ => by cases x; exacts [.inl hx, .inr hx]⟩

/-- Without an abort, or with a closure in flight, nothing is resolved. -/
theorem LevelUnit.settleAbort_waits {l : LevelUnit} {r : Nat} (h : l.abort = false ∨ ∃ x, (l.corner x).closureEnd ≠ none) :
    l.settleAbort r = l := by
  refine if_neg ?_
  rw [Bool.and_eq_true, Bool.not_eq_true', not_and, Bool.not_eq_false]
  intro ha
  obtain h | h := h
  · rw [h] at ha; cases ha
  · exact l.closureInFlight_iff.mpr h

/-- With none in flight it resolves. -/
theorem LevelUnit.settleAbort_resolves {l : LevelUnit} {r : Nat} (ha : l.abort = true)
    (h : ∀ x, (l.corner x).closureEnd = none) : l.settleAbort r = l.resolveAbort r := by
  have none : l.closureInFlight = false := by
    rw [Bool.eq_false_iff, Ne, l.closureInFlight_iff]
    exact fun ⟨x, hx⟩ => hx (h x)
  exact if_pos (by rw [ha, none]; rfl)

/-- Resolved or not, a corner keeps all but its target and its travel. -/
theorem LevelUnit.settleAbort_corner (l : LevelUnit) (r : Nat) (x : Side) :
    ((l.settleAbort r).corner x).phase = (l.corner x).phase ∧
    ((l.settleAbort r).corner x).closureEnd = (l.corner x).closureEnd ∧
    ((l.settleAbort r).corner x).settleStart = (l.corner x).settleStart ∧
    ((l.settleAbort r).corner x).exhaustValve = (l.corner x).exhaustValve := by
  unfold LevelUnit.settleAbort
  split
  · cases x <;> exact ⟨rfl, rfl, rfl, rfl⟩
  · exact ⟨rfl, rfl, rfl, rfl⟩

/-- The level state of a resolved abort (log entry 15). -/
theorem LevelUnit.resolveAbort_level {l : LevelUnit} (r : Nat) (h : ∀ x, (l.corner x).phase ≠ .fault) :
    (l.resolveAbort r).level = .raising :=
  if_neg (not_or.mpr ⟨h .left, h .right⟩)

@[simp] theorem LevelUnit.setCorner_corner (l : LevelUnit) (x y : Side) (c : Corner) :
    (l.setCorner x c).corner y = if y = x then c else l.corner y := by
  cases x <;> cases y <;> rfl

@[simp] theorem LevelUnit.setCorner_frame (l : LevelUnit) (x : Side) (c : Corner) :
    (l.setCorner x c).kneel = l.kneel ∧ (l.setCorner x c).sides = l.sides ∧ (l.setCorner x c).abort = l.abort ∧
    (l.setCorner x c).level = l.level := by
  cases x <;> exact ⟨rfl, rfl, rfl, rfl⟩

/-! ### The completed closure (R154) -/

/-- Settles O44: the closed corner, and the abort that its closure lets resolve. -/
theorem closureAndAbort : Obligations.ClosureAndAbort := by
  intro dt side e s u hp hruns haxle hclosing he hreached
  have lu : u.lu = s.lu := by simp [u]
  have bu : u.bu = s.bu := by simp [u]
  have sc : u.sc = s.sc := by simp [u]
  have due : u.closureDue side = true := by
    have passes : passed (s.lu.corner side).closureEnd u.now = true := by rw [he]; exact decide_eq_true hreached
    rw [State.closureDue, lu, passes, State.elapse_runs, State.elapse_own, hruns, haxle]
    rfl
  refine ⟨closureComplete side u, runWhen_ready hp due, ?_⟩
  clear_value u
  have closed : (s.lu.corner side).closed = { s.lu.corner side with
      phase := .settling, settleStart := some e, closureEnd := none } := by
    rw [Corner.closed, if_pos hclosing, he]
  set l := s.lu.setCorner side (s.lu.corner side).closed with hl
  have after : (closureComplete side u) = u.setLevel (l.settleAbort s.sc.prof.rideHeight) := by
    rw [closureComplete, lu, sc]
  have corner : l.corner side = (s.lu.corner side).closed := by simp [hl]
  have other {x : Side} (hx : x ≠ side) : l.corner x = s.lu.corner x := by simp [hl, hx]
  obtain ⟨kneel, sides, abort, level⟩ := s.lu.setCorner_frame side (s.lu.corner side).closed
  rw [← hl] at kneel sides abort level
  obtain ⟨phase, closureEnd, settleStart, -⟩ := l.settleAbort_corner s.sc.prof.rideHeight side
  rw [corner, closed] at phase closureEnd settleStart
  rw [after, State.setLevel_lu]
  refine ⟨phase, settleStart, closureEnd, fun h => ?_, fun h hx => ?_, fun h hx => ?_⟩
  · rw [LevelUnit.settleAbort_waits (.inl (abort.trans h)), kneel, level]
    exact ⟨rfl, rfl, (State.setLevel_bu_of_freezes (by rw [kneel, lu])).trans bu⟩
  · obtain ⟨y, hy⟩ : ∃ y, y ≠ side := ⟨match side with | .left => .right | .right => .left, by cases side <;> simp⟩
    rw [LevelUnit.settleAbort_waits (.inr ⟨y, by rw [other hy]; exact hx y hy⟩), kneel, abort]
    exact ⟨h, rfl⟩
  · have none (x : Side) : (l.corner x).closureEnd = none := by
      by_cases hxs : x = side
      · rw [hxs, corner, closed]
      · rw [other hxs, hx x hxs]
    rw [LevelUnit.settleAbort_resolves (abort.trans h) none]
    refine ⟨rfl, rfl, rfl, rfl, rfl, fun hno => LevelUnit.resolveAbort_level _ fun x => ?_, fun hf => ?_⟩
    · by_cases hxs : x = side
      · rw [hxs, corner, closed]; simp
      · rw [other hxs]; exact hno x
    · exact (State.setLevel_bu_of_freezes (by rw [lu, hf]; rfl)).trans bu

/-! ### The contact (R162) -/

/-- The level unit as the contact leaves it before a closure is waited for. -/
def State.contactStops (s : State) : LevelUnit :=
  { s.lu with
    left := s.lu.left.stopExhaust s.now
    right := s.lu.right.stopExhaust s.now
    kneelLatch := true
    abort := true }

theorem State.contactLevel_eq (s : State) : s.contactLevel = s.contactStops.settleAbort s.sc.prof.rideHeight := rfl

theorem State.contactStops_corner (s : State) (x : Side) :
    s.contactStops.corner x = (s.lu.corner x).stopExhaust s.now := by
  cases x <;> rfl

/-- A corner that exhausts closes its valve, another stays (R162). -/
theorem Corner.stopExhaust_of_exhausting {c : Corner} (now : Time) (h : c.phase = .exhausting) :
    c.stopExhaust now = c.close now := if_pos h

theorem Corner.stopExhaust_of_other {c : Corner} (now : Time) (h : c.phase ≠ .exhausting) :
    c.stopExhaust now = c := if_neg h

/-- An exhaust or a closure is under way as the contact acts. -/
def State.contactWaits (s : State) : Prop :=
  ∃ x, (s.lu.corner x).phase = .exhausting ∨ (s.lu.corner x).closureEnd ≠ none

/-- Every exhaust closes, so that an abort waits for it, or for a closure that was in flight (log entry 15). -/
theorem State.contactStops_inFlight (s : State) :
    (∃ x, (s.contactStops.corner x).closureEnd ≠ none) ↔ s.contactWaits := by
  refine exists_congr fun x => ?_
  rw [State.contactStops_corner]
  by_cases h : (s.lu.corner x).phase = .exhausting
  · simp [Corner.stopExhaust_of_exhausting _ h, Corner.close, h]
  · simp [Corner.stopExhaust_of_other _ h, h]

theorem State.contactLevel_waits {s : State} (h : s.contactWaits) : s.contactLevel = s.contactStops := by
  rw [State.contactLevel_eq, LevelUnit.settleAbort_waits (.inr (s.contactStops_inFlight.mpr h))]

theorem State.contactLevel_resolves {s : State} (h : ¬s.contactWaits) :
    s.contactLevel = s.contactStops.resolveAbort s.sc.prof.rideHeight := by
  rw [State.contactLevel_eq, LevelUnit.settleAbort_resolves rfl]
  intro x
  by_contra hx
  exact h (s.contactStops_inFlight.mp ⟨x, hx⟩)

/-- What the contact does to the phase of a corner (R162). -/
theorem State.contactLevel_corner (s : State) (x : Side) :
    ((s.lu.corner x).phase = .exhausting → (s.contactLevel.corner x).phase = .closing ∧
      (s.contactLevel.corner x).exhaustValve = false ∧
      (s.contactLevel.corner x).closureEnd = some (s.now + 40000)) ∧
    ((s.lu.corner x).phase ≠ .exhausting → (s.contactLevel.corner x).phase = (s.lu.corner x).phase) := by
  obtain ⟨phase, closureEnd, -, valve⟩ := s.contactStops.settleAbort_corner s.sc.prof.rideHeight x
  rw [State.contactLevel_eq, phase, closureEnd, valve, State.contactStops_corner]
  refine ⟨fun h => ?_, fun h => ?_⟩
  · rw [Corner.stopExhaust_of_exhausting _ h]
    exact ⟨rfl, rfl, rfl⟩
  · rw [Corner.stopExhaust_of_other _ h]

/-- The kneel phase freezes the load before and after the contact. -/
theorem State.contactLevel_freezes {s : State} (h : s.lu.kneel.lowered = true) : s.contactLevel.kneel.freezes = true := by
  by_cases hw : s.contactWaits
  · rw [State.contactLevel_waits hw]
    change s.lu.kneel.freezes = true
    cases hk : s.lu.kneel <;> simp [hk, KneelPhase.lowered, KneelPhase.freezes] at h ⊢
  · rw [State.contactLevel_resolves hw]; rfl

theorem KneelPhase.lowered_iff (k : KneelPhase) : k.lowered = true ↔ k = .kneeling ∨ k = .knelt := by
  cases k <;> simp [KneelPhase.lowered]

theorem KneelPhase.freezes_of_lowered {k : KneelPhase} (h : k.lowered = true) : k.freezes = true := by
  cases k <;> simp_all [KneelPhase.lowered, KneelPhase.freezes]

/-- The contact acts in KNEELING and KNELT while no abort pends (R162). -/
theorem State.skirtListens_iff (s : State) :
    s.skirtListens = true ↔ (s.lu.kneel = .kneeling ∨ s.lu.kneel = .knelt) ∧ s.lu.abort = false := by
  rw [State.skirtListens, Bool.and_eq_true, KneelPhase.lowered_iff, Bool.not_eq_true']

theorem skirtContact_summary (s : State) : (skirtContact s).li.summary = insertKind .kneelAborted s.li.summary := rfl

/-- A kneel that the contact stops leaves the brake unit. -/
theorem skirtContact_bu_of_lowered {s : State} (h : s.lu.kneel.lowered = true) : (skirtContact s).bu = s.bu := by
  rw [skirtContact_bu, State.setLevel_bu_of_freezes
    ((KneelPhase.freezes_of_lowered h).trans (State.contactLevel_freezes h).symm)]

@[simp] theorem State.contactLevel_restartFault (s : State) : s.contactLevel.restartFault = s.lu.restartFault := by
  rw [State.contactLevel_eq, LevelUnit.settleAbort]
  split <;> rfl

@[simp] theorem skirtContact_heightValue (s : State) (x : Side) : (skirtContact s).heightValue x = s.heightValue x := by
  simp [State.heightValue, State.channel]

/-- A CLOSING corner with a value keeps its closure at an update (R154). -/
theorem State.levelAfter_closing {s : State} {skirt acted : Bool} {x : Side} (hr : s.lu.restartFault = false)
    (hv : (s.heightValue x).isSome = true) (hp : (s.lu.corner x).phase = .closing) :
    ((s.levelAfter skirt acted).corner x).phase = .closing ∧
    ((s.levelAfter skirt acted).corner x).exhaustValve = (s.lu.corner x).exhaustValve ∧
    ((s.levelAfter skirt acted).corner x).closureEnd = (s.lu.corner x).closureEnd := by
  obtain ⟨named, e⟩ := s.levelAfter_corner skirt acted x
  have hp' : ((s.cornerRead skirt acted x).clearBar (s.cornerView x)).phase = .closing := by simpa using hp
  rw [e, State.cornerStepped_phaseStep _ _ _ _ (by rw [hr]; rfl), Corner.phaseStep_closing hv hp']
  simp [hp]

/-- Under a pending abort no pulse opens, and a STEADY corner with a value stays so (R153). -/
theorem State.levelAfter_pends {s : State} {skirt acted : Bool} {x : Side} (hr : s.lu.restartFault = false)
    (hv : (s.heightValue x).isSome = true) (ha : s.lu.abort = true) :
    (((s.levelAfter skirt acted).corner x).phase = .filling → (s.lu.corner x).phase = .filling) ∧
    (((s.levelAfter skirt acted).corner x).phase = .exhausting → (s.lu.corner x).phase = .exhausting) ∧
    ((s.lu.corner x).phase = .steady → ((s.levelAfter skirt acted).corner x).phase = .steady) := by
  have mayOpen : (s.cornerView x).mayOpen = false := by simp [State.cornerView, ha]
  have := ((s.cornerRead skirt acted x).clearBar (s.cornerView x)).phaseStep_opens_none mayOpen
  rw [State.levelAfter_phase, State.cornerStepped_phaseStep _ _ _ _ (by rw [hr]; rfl)]
  refine ⟨fun h => by simpa using this.2.2.2.1 h, fun h => by simpa using this.2.2.2.2 h, fun hp => ?_⟩
  rw [Corner.phaseStep_steady_rests hv (by simpa using hp) mayOpen]
  simpa using hp

/-- Settles O45: the contact as an event, and the contact that a level update acts on first. -/
theorem skirtContactActs : Obligations.SkirtContactActs := by
  refine ⟨?event, ?read⟩
  case event =>
    intro dt s u hp hruns haxle
    have lu : u.lu = s.lu := by simp [u]
    have bu : u.bu = s.bu := by simp [u]
    have li : u.li = s.li := by simp [u]
    have due : u.skirtDue = u.skirtListens := by
      rw [State.skirtDue, State.elapse_runs, State.elapse_own, hruns, haxle]
      rfl
    refine ⟨fun hk ha => ?_, fun h => ?_⟩
    · have listens : u.skirtListens = true := u.skirtListens_iff.mpr (lu ▸ ⟨hk, ha⟩)
      have lowered : u.lu.kneel.lowered = true := by rw [lu]; exact (KneelPhase.lowered_iff _).mpr hk
      refine ⟨skirtContact u, runWhen_ready hp (due.trans listens), ?_⟩
      clear_value u
      rw [skirtContact_lu, skirtContact_summary, skirtContact_bu_of_lowered lowered, li, bu]
      have waits : u.contactWaits ↔ ∃ x, (s.lu.corner x).phase = .exhausting ∨ (s.lu.corner x).closureEnd ≠ none := by
        rw [State.contactWaits, lu]
      refine ⟨(u.contactLevel_latches).2, rfl, rfl, fun x hx => (u.contactLevel_corner x).1 (lu ▸ hx),
        fun x hx => ((u.contactLevel_corner x).2 (lu ▸ hx)).trans (by rw [lu]), fun h => ?_, fun h => ?_⟩
      · rw [State.contactLevel_waits (waits.mpr h)]
        exact ⟨rfl, by rw [← lu]; rfl⟩
      · have none : ¬u.contactWaits := fun hw => by
          obtain ⟨x, hx⟩ := waits.mp hw
          exact hx.elim (h x).1 fun hc => hc (h x).2
        rw [State.contactLevel_resolves none]
        exact ⟨rfl, rfl, rfl⟩
    · refine runWhen_idle (due.trans ?_)
      rw [Bool.eq_false_iff, Ne, State.skirtListens_iff, lu]
      rintro ⟨hk, ha⟩
      obtain h | h | h := h
      · rw [h] at hk; simp at hk
      · rw [h] at hk; simp at hk
      · rw [h] at ha; cases ha
  case read =>
    intro dt a b s u waits hp hdue hk ha hrestart h0 h1
    have lu : u.lu = s.lu := by simp [u]
    have bu : u.bu = s.bu := by simp [u]
    have li : u.li = s.li := by simp [u]
    have sc : u.sc = s.sc := by simp [u]
    have seen (x : Side) : (u.heightValue x).isSome = true := by
      cases x
      · simp [u, State.heightValue, heightChannel, h0]
      · simp [u, State.heightValue, heightChannel, h1]
    have listens : u.skirtListens = true := u.skirtListens_iff.mpr (lu ▸ ⟨hk, ha⟩)
    have lowered : u.lu.kneel.lowered = true := by rw [lu]; exact (KneelPhase.lowered_iff _).mpr hk
    refine ⟨levelUpdate true u, runWhen_ready hp hdue, ?_⟩
    clear_value u
    have hw : u.contactWaits ↔ waits := by rw [State.contactWaits, lu]
    rw [levelUpdate_of_contact listens, levelStep_lu, levelStep_bu]
    set w := skirtContact u with hwdef
    have wlu : w.lu = u.contactLevel := skirtContact_lu u
    have step : w.kneelStep true true = (w.lu.kneel, w.lu.sides) := State.kneelStep_rests (.inr (.inr rfl))
    have restart : w.lu.restartFault = false := by rw [wlu, State.contactLevel_restartFault, lu, hrestart]
    have value (x : Side) : (w.heightValue x).isSome = true := by rw [skirtContact_heightValue]; exact seen x
    have corner (x : Side) := u.contactLevel_corner x
    rw [← wlu, lu] at corner
    have frozen : w.lu.kneel.freezes = true := by rw [wlu]; exact State.contactLevel_freezes lowered
    refine ⟨?_, ?_, ?_, fun x hx => ?_, fun h => ?_, fun h => ?_⟩
    · rw [levelStep_li, State.mem_raiseIf, skirtContact_summary, mem_insertKind]
      exact .inr (.inl rfl)
    · rw [State.setLevel_bu_of_freezes, skirtContact_bu_of_lowered lowered, bu]
      obtain h | h := w.levelAfter_kneel true true
      · rw [frozen, h]; rfl
      · rw [h.1, step]
    · rw [State.levelAfter_kneelLatch, skirtContact_effectiveDemand, wlu, (u.contactLevel_latches).2]
      split <;> simp [*]
    · obtain ⟨phase, valve, closureEnd⟩ := (corner x).1 hx
      obtain ⟨phase', valve', closureEnd'⟩ := State.levelAfter_closing (skirt := true) (acted := true) restart (value x) phase
      exact ⟨phase', valve'.trans valve, closureEnd'.trans closureEnd⟩
    · have pends : w.lu.abort = true := by rw [wlu, State.contactLevel_waits (hw.mpr h)]; rfl
      obtain ⟨kneel, sides⟩ := w.levelAfter_holds true true (.inl (.inr pends))
      rw [step, wlu, State.contactLevel_waits (hw.mpr h)] at kneel sides
      refine ⟨pends, kneel.trans (by rw [← lu]; rfl), sides.trans (by rw [← lu]; rfl), fun x => ?_⟩
      obtain ⟨filling, exhausting, steady⟩ := State.levelAfter_pends (skirt := true) (acted := true) restart (value x) pends
      by_cases hx : (s.lu.corner x).phase = .exhausting
      · obtain ⟨phase, -⟩ := (corner x).1 hx
        rw [phase] at filling exhausting
        exact ⟨fun h => (by cases exhausting h), fun h => (by cases filling h), fun h => by rw [hx] at h; cases h⟩
      · have phase := (corner x).2 hx
        rw [phase] at filling exhausting steady
        exact ⟨fun h => hx (exhausting h), filling, steady⟩
    · have resolved := State.contactLevel_resolves (mt hw.mp h)
      obtain ⟨kneel, sides⟩ := w.levelAfter_holds true true (.inl (.inl (by rw [step, wlu, resolved]; rfl)))
      have target (x : Side) : ((w.levelAfter true true).corner x).target = s.sc.prof.rideHeight := by
        rw [(w.levelAfter_target ..).1, step, wlu, resolved, Profile.cornerTarget_ride _ _ _ rfl]
        simp [w, sc]
      rw [step, wlu, resolved] at kneel sides
      exact ⟨by rw [State.levelAfter_abort, wlu, resolved]; rfl, kneel, sides, target .left, target .right⟩

end Sys2Proof.Machine
end

section
/-! PROOF. The pulses of a corner (R151 to R156, R164, R165). -/

namespace Sys2Proof.Machine

/-! ### The sample (R152) -/

/-- A corner with a value takes it into its history and forms its height. -/
theorem Corner.sample_some (c : Corner) (a : Int) (still : Bool) :
    (c.sample (some a) still).history = c.appended a ∧
    (c.sample (some a) still).height = some (if still then a else meanOf (c.appended a)) := ⟨rfl, rfl⟩

/-- The spring pressure is below the bellows floor (R153). -/
theorem State.springAtFloor_iff (s : State) (x : Side) :
    s.springAtFloor x = true ↔ ∃ p, (s.channel (springChannel x)).reading = some p ∧ p < 100 := by
  unfold State.springAtFloor
  cases (s.channel (springChannel x)).reading with
  | none => simp
  | some p =>
    simp only [decide_eq_true_eq, Option.some.injEq, exists_eq_left']
    exact Iff.rfl

/-! ### The progress check (R155) -/

theorem Corner.checkedProgress_unchecked {c : Corner} (h : c.unchecked = false ∨ c.pulseHeight = none) :
    c.checkedProgress = c.progress := by
  have none : c.stalled = none := by
    obtain h | h := h <;> simp only [Corner.stalled, h]
    cases c.unchecked <;> cases c.height <;> rfl
  simp only [Corner.checkedProgress, none]

theorem Corner.stalled_checked {c : Corner} {h was : Int} (hu : c.unchecked = true) (hh : c.height = some h)
    (hw : c.pulseHeight = some was) : c.stalled = some (decide ((h - was).natAbs < 2)) := by
  simp only [Corner.stalled, hu, hh, hw]
  rfl

theorem Corner.checkedProgress_moved {c : Corner} {h was : Int} (hu : c.unchecked = true) (hh : c.height = some h)
    (hw : c.pulseHeight = some was) (hm : 2 ≤ (h - was).natAbs) : c.checkedProgress = 0 := by
  simp only [Corner.checkedProgress, Corner.stalled_checked hu hh hw, decide_eq_false (not_lt.mpr hm)]

theorem Corner.checkedProgress_stalled {c : Corner} {h was : Int} (hu : c.unchecked = true) (hh : c.height = some h)
    (hw : c.pulseHeight = some was) (hm : (h - was).natAbs < 2) : c.checkedProgress = c.progress + 1 := by
  simp only [Corner.checkedProgress, Corner.stalled_checked hu hh hw, decide_eq_true hm]

/-! ### A corner at its update outside a kneel -/

/-- A corner as its step finds it: sampled, with the ride height as target, its floor bar cleared where it is to be. -/
def State.cornerFound (s : State) (x : Side) : Corner := (s.cornerRead false false x).clearBar (s.cornerView x)

section
variable {s : State} {x : Side} {a : Int} (hd : s.drives = true) (ha : s.lu.abort = false)
  (hk : s.lu.kneel = .none) (hq : s.effectiveDemand.kneel = .none) (hr : s.lu.restartFault = false)
  (hv : s.heightValue x = some a)

include hr in
theorem State.levelAfter_found : ∃ named,
    (s.levelAfter false false).corner x = ((s.cornerFound x).phaseStep (s.cornerView x)).withTravel named := by
  obtain ⟨named, e⟩ := s.levelAfter_corner false false x
  exact ⟨named, e.trans (by rw [State.cornerStepped_phaseStep _ _ _ _ (by rw [hr]; rfl)]; rfl)⟩

include hd ha hk hq hv in
/-- The items of the corner found that the update has formed. -/
theorem State.cornerFound_formed :
    (s.cornerFound x).history = (s.lu.corner x).appended a ∧
    (s.cornerFound x).height = some (if s.standstill then a else meanOf ((s.lu.corner x).appended a)) ∧
    (s.cornerFound x).target = s.sc.prof.rideHeight := by
  have step : s.kneelStep false false = (.none, s.lu.sides) := State.kneelStep_none hd ha hk hq
  have target : s.sc.prof.cornerTarget .none s.lu.sides x = s.sc.prof.rideHeight :=
    Profile.cornerTarget_ride _ _ _ rfl
  simp [State.cornerFound, State.cornerRead, hv, step, target, Corner.sample_some]

/-- The items of the corner found that it brings. -/
@[simp] theorem State.cornerFound_frame (s : State) (x : Side) :
    (s.cornerFound x).phase = (s.lu.corner x).phase ∧
    (s.cornerFound x).pulseStart = (s.lu.corner x).pulseStart ∧
    (s.cornerFound x).pulseHeight = (s.lu.corner x).pulseHeight ∧
    (s.cornerFound x).unchecked = (s.lu.corner x).unchecked ∧
    (s.cornerFound x).closureEnd = (s.lu.corner x).closureEnd ∧
    (s.cornerFound x).settleStart = (s.lu.corner x).settleStart ∧
    (s.cornerFound x).progress = (s.lu.corner x).progress ∧
    (s.cornerFound x).cause = (s.lu.corner x).cause ∧
    (s.cornerFound x).fillValve = (s.lu.corner x).fillValve ∧
    (s.cornerFound x).exhaustValve = (s.lu.corner x).exhaustValve := by
  simp [State.cornerFound]

end

/-- Within the deadband the floor bar is cleared (R153). -/
theorem State.cornerFound_bar {s : State} {x : Side} {h : Int} (hh : (s.cornerFound x).height = some h)
    (hb : ((h - (s.cornerFound x).target).natAbs : Int) ≤ deadband s.standstill) : (s.cornerFound x).floorBar = false := by
  have hh' : (s.cornerRead false false x).height = some h := by simpa [State.cornerFound] using hh
  refine Corner.clearBar_within ((Corner.within_iff hh' _).mpr ?_)
  have target : (s.cornerFound x).target = (s.cornerRead false false x).target := by simp [State.cornerFound]
  rw [← target]
  exact hb

/-- A corner without a value at an update: in FAULT, its items kept (R152, R156). -/
theorem State.levelAfter_unseen {s : State} {x : Side} (hr : s.lu.restartFault = false) (hv : s.heightValue x = none) :
    let c := s.lu.corner x
    let y := (s.levelAfter false false).corner x
    y.phase = .fault ∧ y.cause = (if c.phase = .fault then c.cause else .channel) ∧
      (c.phase ≠ .fault → y.fillValve = false ∧ y.exhaustValve = false) ∧
      y.history = c.history ∧ y.height = c.height ∧ y.progress = c.progress ∧ y.closureEnd = c.closureEnd := by
  obtain ⟨named, corner⟩ := State.levelAfter_found (x := x) hr
  have seen : (s.cornerView x).seen = false := by rw [State.cornerView, hv]; rfl
  have history : (s.cornerFound x).history = (s.lu.corner x).history := by
    simp [State.cornerFound, State.cornerRead, hv, Corner.sample]
  have height : (s.cornerFound x).height = (s.lu.corner x).height := by
    simp [State.cornerFound, State.cornerRead, hv, Corner.sample]
  rw [Corner.phaseStep_unseen seen] at corner
  by_cases h : (s.lu.corner x).phase = .fault
  · simp [corner, h, history, height]
  · simp [corner, h, history, height]

/-- A corner that times out sets the LEVEL latch, with its event (R155). -/
theorem State.levelAfter_timesOut {s : State} {x : Side} (hr : s.lu.restartFault = false)
    (hp : (s.lu.corner x).phase = .settling) (hf : ((s.levelAfter false false).corner x).phase = .fault)
    (hc : ((s.levelAfter false false).corner x).cause = .timeout) :
    (s.levelAfter false false).levelLatch = true ∧ s.cornerTimesOut false false = true := by
  have out : timesOut (s.lu.corner x) ((s.levelAfter false false).corner x) = true := by simp [timesOut, hp, hf, hc]
  have either : (timesOut s.lu.left (s.levelAfter false false).left ||
      timesOut s.lu.right (s.levelAfter false false).right) = true := by
    cases x
    · exact (Bool.or_eq_true ..).mpr (.inl out)
    · exact (Bool.or_eq_true ..).mpr (.inr out)
  have latch : (s.levelAfter false false).levelLatch = (s.lu.levelLatch || s.cornerTimesOut false false) := by
    cases hv : s.heightValue .left <;> cases hw : s.heightValue .right <;>
      simp [State.levelAfter, State.cornerTimesOut, LevelUnit.finish, LevelUnit.stepCorners, timesOut,
        State.targetedLevel, State.latchedLevel, State.sampledLevel, hv, hw, Corner.sample]
  have fires : s.cornerTimesOut false false = true := by rw [State.cornerTimesOut, either, hr]; rfl
  exact ⟨by rw [latch, fires, Bool.or_true], fires⟩

/-- With its floor bar clear a corner is at its target by its height alone (R157). -/
theorem Corner.atTarget_iff_height {c : Corner} (hb : c.floorBar = false) (band : Int) :
    c.atTarget band = true ↔ ∃ h, c.height = some h ∧ ((h - c.target).natAbs : Int) ≤ band := by
  cases hh : c.height with
  | none => simp [Corner.atTarget, Corner.within, Corner.errorIs, Corner.error, hh, hb]
  | some h => simp only [Corner.atTarget_iff hh, hb, Bool.false_eq_true, or_false, Option.some.injEq, exists_eq_left']

/-- Without the LEVEL latch the restart's mark has no part in an update (log entry 18). -/
theorem levelUpdate_restartFault {s : State} (h : s.lu.levelLatch = false) :
    levelUpdate false { s with lu := { s.lu with restartFault := false } } = levelUpdate false s := by
  set t : State := { s with lu := { s.lu with restartFault := false } } with ht
  have targeted : t.targetedLevel false false = { s.targetedLevel false false with restartFault := false } := rfl
  have latch : (s.targetedLevel false false).levelLatch = false := h
  have after : t.levelAfter false false = s.levelAfter false false := by
    simp only [State.levelAfter, targeted, latch, Bool.and_false]
    rfl
  have timesOut : t.cornerTimesOut false false = s.cornerTimesOut false false := by
    simp only [State.cornerTimesOut, after]
    rw [h, Bool.and_false, Bool.and_false]
  have set : t.setLevel (s.levelAfter false false) = s.setLevel (s.levelAfter false false) := rfl
  rw [levelUpdate_false, levelUpdate_false, levelStep, levelStep, after, timesOut, set]
  rfl

/-! ### An update that ends the kneel for a corner without a value (R161) -/

/-- The kneel ends in RAISING with a corner that an update takes to FAULT (R161). -/
theorem State.levelAfter_ends_kneel {u : State} (hd : u.drives = true) (ha : u.lu.abort = false)
    (hk : u.lu.kneel = .kneeling ∨ u.lu.kneel = .knelt) (hf : u.cornerFaults false false) :
    (u.levelAfter false false).kneel = .raising ∧ (u.levelAfter false false).sides = .none := by
  by_cases hq : u.effectiveDemand.kneel = .none
  · have step : u.kneelStep false false = (.raising, .none) := State.kneelStep_withdrawn hd ha hk hq
    have := u.levelAfter_holds false false (.inl (.inl (by rw [step]; rfl)))
    rwa [step] at this
  · refine u.levelAfter_ends false false ?_ ha hf
    obtain hk | hk := hk
    · rw [State.kneelStep_kneeling hd ha hk hq]
      dsimp only
      split <;> rfl
    · rw [State.kneelStep_knelt hd ha hk hq]; rfl

/-- With a corner in FAULT no kneel goes on (R161). -/
theorem State.levelAfter_not_lowered {u : State} (ha : u.lu.abort = false) (hf : u.cornerFaults false false) :
    (u.levelAfter false false).kneel.lowered = false := by
  cases h : (u.kneelStep false false).1.lowered with
  | true => rw [(u.levelAfter_ends false false h ha hf).1]; rfl
  | false => rw [(u.levelAfter_holds false false (.inl (.inl h))).1, h]

/-! ### An update in LISTENING (R164) -/

section
variable {u : State} (hd : u.drives = false)
include hd

theorem State.cornerView_shut (x : Side) : (u.cornerView x).mayOpen = false := by simp [State.cornerView, hd]

/-- A STEADY corner that is seen stays as it is but for its height, its bar clear. -/
theorem State.levelAfter_stopped_steady (hr : u.lu.restartFault = false)
    (hall : ∀ x, (u.lu.corner x).phase = .steady ∧ (u.lu.corner x).floorBar = false ∧ u.heightValue x ≠ none) (skirt : Bool)
    (x : Side) : ((u.levelAfter skirt false).corner x).phase = .steady ∧
      ((u.levelAfter skirt false).corner x).floorBar = false := by
  obtain ⟨named, corner⟩ := u.levelAfter_corner skirt false x
  obtain ⟨steady, bar, reads⟩ := hall x
  have found : ((u.cornerRead skirt false x).clearBar (u.cornerView x)).phase = .steady := by simpa using steady
  have seen : (u.cornerView x).seen = true := Option.isSome_iff_ne_none.mpr reads
  rw [u.cornerStepped_phaseStep skirt false x (by rw [hr]; rfl),
    Corner.clearBar_of_clear _ (by simpa using bar),
    Corner.phaseStep_steady_rests seen (by simpa using steady) (State.cornerView_shut hd x)] at corner
  rw [corner]
  exact ⟨by simpa using steady, by simpa using bar⟩

variable (hk : u.lu.kneel = .none)
include hk

theorem State.kneelStep_stopped (skirt : Bool) : u.kneelStep skirt false = (.none, u.lu.sides) := by
  rw [State.kneelStep_rests (.inl hd), hk]

theorem State.levelAfter_stopped_kneel (skirt : Bool) : (u.levelAfter skirt false).kneel = .none := by
  have step := State.kneelStep_stopped hd hk skirt
  obtain ⟨kneel, -⟩ := u.levelAfter_holds skirt false (.inl (.inl (by rw [step]; rfl)))
  rw [kneel, step]

theorem State.levelAfter_stopped_target (skirt : Bool) (x : Side) :
    ((u.levelAfter skirt false).corner x).target = u.sc.prof.rideHeight := by
  rw [(u.levelAfter_target ..).1, State.kneelStep_stopped hd hk, Profile.cornerTarget_ride _ _ _ rfl]

/-- With both corners STEADY the level state is RIDE exactly when both heights are within the deadband (R157). -/
theorem State.levelAfter_stopped_level (hr : u.lu.restartFault = false)
    (hall : ∀ x, (u.lu.corner x).phase = .steady ∧ (u.lu.corner x).floorBar = false ∧ u.heightValue x ≠ none) (skirt : Bool) :
    ((u.levelAfter skirt false).level = .ride ∨ (u.levelAfter skirt false).level = .levelling) ∧
      ((u.levelAfter skirt false).level = .ride ↔ ∀ x, ∃ h, ((u.levelAfter skirt false).corner x).height = some h ∧
        ((h - u.sc.prof.rideHeight).natAbs : Int) ≤ deadband u.standstill) := by
  have steady := State.levelAfter_stopped_steady hd hr hall skirt
  have atTarget (x : Side) : ((u.levelAfter skirt false).corner x).atTarget (deadband u.standstill) = true ↔
      ∃ h, ((u.levelAfter skirt false).corner x).height = some h ∧
        ((h - u.sc.prof.rideHeight).natAbs : Int) ≤ deadband u.standstill := by
    rw [Corner.atTarget_iff_height (steady x).2, State.levelAfter_stopped_target hd hk]
  have level := u.levelAfter_level skirt false fun x => by rw [(steady x).1]; simp
  rw [State.levelAfter_stopped_kneel hd hk] at level
  have both : ((u.levelAfter skirt false).left.atTarget (deadband u.standstill) = true ∧
      (u.levelAfter skirt false).right.atTarget (deadband u.standstill) = true) ↔
      ∀ x, ∃ h, ((u.levelAfter skirt false).corner x).height = some h ∧
        ((h - u.sc.prof.rideHeight).natAbs : Int) ≤ deadband u.standstill := by
    simp only [← atTarget]
    exact ⟨fun h x => by cases x; exacts [h.1, h.2], fun h => ⟨h .left, h .right⟩⟩
  have ride : (u.levelAfter skirt false).level = if ((u.levelAfter skirt false).left.atTarget (deadband u.standstill) = true ∧
      (u.levelAfter skirt false).right.atTarget (deadband u.standstill) = true) then .ride else .levelling := by
    refine level.trans (if_congr ?_ rfl rfl)
    exact ⟨fun h => h.2.2, fun h => ⟨(steady .left).1, (steady .right).1, h⟩⟩
  rw [ride, ← both]
  split
  next h => exact ⟨.inl rfl, iff_of_true rfl h⟩
  next h => exact ⟨.inr rfl, iff_of_false (by simp) h⟩

end

/-- Settles O43: the step of each phase on the corner an update has read, at a stop and moving, seen or unseen. -/
theorem cornerPulses : Obligations.CornerPulses := by
  refine ⟨?pulses, ?unseen, ?restart, ?listening⟩
  case pulses =>
    intro dt side a s u target c samples h band half low closes opens hp hdue hdrives habort hk hq hrestart ha
    have hd : u.drives = true := (State.elapse_drives ..).trans hdrives
    have lu : u.lu = s.lu := by simp [u]
    have sc : u.sc = s.sc := by simp [u]
    have sched : u.sched = s.sched := by simp [u]
    have value : u.heightValue side = some a := by simpa [u, State.heightValue] using ha
    have atFloor : u.springAtFloor side = true ↔ low := by rw [State.springAtFloor_iff]; simp [u, low]
    have ran : exec (.levelUpdate dt false) s = .next (levelUpdate false u) := runWhen_ready hp hdue
    have limit (hr : u.pulseLimitDue side = true) :
        exec (.pulseLimitEnd dt side false) s = .next (levelUpdate false u) := runWhen_ready hp hr
    have settle (hr : u.settleDue side = true) :
        exec (.settleTimeEnd dt side false) s = .next (levelUpdate false u) := runWhen_ready hp hr
    clear_value u
    rw [levelUpdate_false] at ran limit settle
    have habort' : u.lu.abort = false := by rw [lu, habort]
    have hk' : u.lu.kneel = .none := by rw [lu, hk]
    have hr' : u.lu.restartFault = false := by rw [lu, hrestart]
    obtain ⟨named, corner⟩ := State.levelAfter_found (x := side) hr'
    obtain ⟨history, height, found⟩ := State.cornerFound_formed hd habort' hk' hq value
    obtain ⟨phase, pulseStart, pulseHeight, unchecked, closureEnd, settleStart, progress, cause, fill, exhaust⟩ :=
      u.cornerFound_frame side
    have seen : (u.cornerView side).seen = true := by rw [State.cornerView, value]; rfl
    have mayOpen : (u.cornerView side).mayOpen = true := by rw [State.cornerView, hd, habort']; rfl
    have view : (u.cornerView side).now = u.now ∧ (u.cornerView side).still = u.standstill ∧
        (u.cornerView side).latch = s.lu.levelLatch ∧ ((u.cornerView side).atFloor = true ↔ low) := 
      ⟨rfl, rfl, by rw [← lu]; rfl, atFloor⟩
    rw [lu] at phase pulseStart pulseHeight unchecked closureEnd settleStart progress cause fill exhaust history height
    rw [sc] at found
    change _ = some h at height
    set d := u.cornerFound side
    set v := u.cornerView side
    obtain ⟨now, still, latch, atFloor⟩ := view
    have wide : deadband v.still = band := rfl
    have narrow : halfBand v.still = half := rfl
    have pulseOver : d.pulseOver v.now = lasted c.pulseStart 2000000 u.now := by rw [Corner.pulseOver, pulseStart]; rfl
    have closed : closes (d.close v.now) := ⟨rfl, rfl, rfl, rfl⟩
    obtain ⟨keptHistory, keptHeight, keptTarget, keptPulse, keptMark⟩ := d.phaseStep_keeps v
    refine ⟨⟨_, ran, ?_⟩, fun hc hl => ?_, fun hc hl => ?_⟩
    · rw [levelStep_sched, levelStep_lu, corner]
      refine ⟨?_, keptHistory.trans history, keptHeight.trans height, keptTarget.trans found, fun hc => ?_, fun hc => ?_,
        fun hc => ?_, fun hc => ?_, fun hc => ?_, fun hc => ?_, fun hc hc' => ?_⟩
      · rw [sched]; split <;> rfl
      · have p : d.phase = .steady := phase.trans hc
        refine ⟨fun he => ?_, fun he hl => ?_, fun he hl => ?_, fun hlo hhi => ?_⟩
        · rw [Corner.phaseStep_fills seen height mayOpen p (by rw [found]; exact he)]
          exact ⟨rfl, rfl, rfl, height, rfl⟩
        · rw [Corner.phaseStep_high seen height mayOpen p (by rw [found]; exact he), if_neg (mt atFloor.mp hl)]
          exact ⟨rfl, rfl, rfl, height, rfl⟩
        · rw [Corner.phaseStep_high seen height mayOpen p (by rw [found]; exact he), if_pos (atFloor.mpr hl)]
          exact ⟨p, rfl⟩
        · rw [Corner.phaseStep_level seen height mayOpen p (by rw [found]; exact hlo) (by rw [found]; exact hhi)]
          exact ⟨p, State.cornerFound_bar height (by rw [found]; change _ ≤ band; omega)⟩
      · have p : d.phase = .filling := phase.trans hc
        rw [Corner.phaseStep_filling seen height p, found, narrow, pulseOver]
        refine ⟨fun he => ?_, fun he ho => ?_⟩
        · rw [if_pos (.inl he)]
          exact closed
        · rw [if_neg (not_or.mpr ⟨not_le.mpr he, by simp [ho]⟩)]
          exact ⟨p, fill⟩
      · have p : d.phase = .exhausting := phase.trans hc
        rw [Corner.phaseStep_exhausting seen height p, found, narrow, pulseOver]
        refine ⟨fun he => ?_, fun he hl ho => ?_⟩
        · rw [if_pos (.inl (he.imp_right atFloor.mpr))]
          exact closed
        · rw [if_neg (not_or.mpr ⟨not_or.mpr ⟨not_le.mpr he, mt atFloor.mp hl⟩, by simp [ho]⟩)]
          exact ⟨p, exhaust⟩
      · rw [Corner.phaseStep_closing seen (phase.trans hc)]
        exact ⟨phase.trans hc, closureEnd⟩
      · refine ⟨fun hl => ?_, fun ht hl => ?_⟩
        · have leaves : d.mayLeave v = true := by
            obtain hl | ⟨ht, hl⟩ := hl
            · simp only [Corner.mayLeave, cause.trans hl, seen]
            · simp only [Corner.mayLeave, cause.trans ht, seen, latch, hl, Bool.not_false, Bool.and_self]
          rw [Corner.phaseStep_fault_leaves (phase.trans hc) leaves]
          exact ⟨rfl, rfl, rfl, rfl⟩
        · have stays : d.mayLeave v = false := by
            simp only [Corner.mayLeave, cause.trans ht, latch, hl, Bool.not_true, Bool.and_false]
          rw [Corner.phaseStep_fault_stays (phase.trans hc) stays]
          exact ⟨phase.trans hc, cause.trans ht, progress⟩
      · obtain ⟨hs, hh⟩ := keptPulse (by rw [phase]; exact hc)
        exact ⟨hs.trans pulseStart, hh.trans pulseHeight⟩
      · exact (keptMark (by rw [phase]; exact hc) (by rw [phase]; exact hc')).trans unchecked
    · have due : u.pulseLimitDue side = true := by
        simp only [State.pulseLimitDue, hdue, lu, Bool.true_and, Bool.and_eq_true, Bool.or_eq_true, decide_eq_true_eq]
        exact ⟨hc, hl⟩
      refine ⟨_, limit due, ?_⟩
      rw [levelStep_lu, corner]
      obtain hc | hc := hc
      · rw [Corner.phaseStep_filling seen height (phase.trans hc), if_pos (.inr (pulseOver.trans hl))]
        exact closed
      · rw [Corner.phaseStep_exhausting seen height (phase.trans hc), if_pos (.inr (pulseOver.trans hl))]
        exact closed
    · have due : u.settleDue side = true := by
        simp only [State.settleDue, hdue, lu, Bool.true_and, Bool.and_eq_true, decide_eq_true_eq]
        exact ⟨hc, hl⟩
      have p : d.phase = .settling := phase.trans hc
      have settled : d.settled v.now = true := by rw [Corner.settled, settleStart]; exact hl
      refine ⟨_, settle due, ?_⟩
      have after : (levelStep false false u).lu.corner side = (d.phaseStep v).withTravel named := by
        rw [levelStep_lu, corner]
      rw [after]
      have steadies (hn : d.checkedProgress < 4) := Corner.phaseStep_settles seen p settled hn
      refine ⟨?_, fun hu hn => ?_, fun was hu hw => ⟨fun hm => ?_, fun hm hn => ?_, fun hm hn => ?_⟩⟩
      · by_cases hn : d.checkedProgress < 4
        · rw [steadies hn]; rfl
        · rw [Corner.phaseStep_timesOut seen p settled (not_lt.mp hn)]; rfl
      · have count : d.checkedProgress = c.progress :=
          (Corner.checkedProgress_unchecked (by rw [unchecked, pulseHeight]; exact hu)).trans progress
        rw [steadies (by omega), count]
        exact ⟨rfl, rfl⟩
      · have count : d.checkedProgress = 0 :=
          Corner.checkedProgress_moved (unchecked.trans hu) height (pulseHeight.trans hw) hm
        rw [steadies (by omega), count]
        exact ⟨rfl, rfl⟩
      · have count : d.checkedProgress = c.progress + 1 := by
          rw [Corner.checkedProgress_stalled (unchecked.trans hu) height (pulseHeight.trans hw) hm, progress]
        rw [steadies (by omega), count]
        exact ⟨rfl, rfl⟩
      · have count : d.checkedProgress = c.progress + 1 := by
          rw [Corner.checkedProgress_stalled (unchecked.trans hu) height (pulseHeight.trans hw) hm, progress]
        have out := Corner.phaseStep_timesOut seen p settled (by omega)
        obtain ⟨latched, timesOut⟩ := State.levelAfter_timesOut (s := u) (x := side) hr' (by rw [lu]; exact hc)
          (by rw [corner, out]; rfl) (by rw [corner, out]; rfl)
        rw [out]
        refine ⟨rfl, rfl, rfl, ?_, ?_, ?_⟩
        · rw [levelStep_lu, latched]
        · rw [levelStep_lu]
          exact State.levelAfter_level_fault _ _ _ side (by rw [corner, out]; rfl)
        · rw [levelStep_li, State.mem_raiseIf]
          exact .inl ⟨timesOut, rfl⟩
  case unseen =>
    intro dt side s u c hp hdue hrestart hnone
    have lu : u.lu = s.lu := by simp [u]
    have bu : u.bu = s.bu := by simp [u]
    have value : u.heightValue side = none := by simpa [u, State.heightValue] using hnone
    have drives : u.drives = s.drives := State.elapse_drives ..
    refine ⟨levelUpdate false u, runWhen_ready hp hdue, ?_⟩
    clear_value u
    rw [levelUpdate_false, levelStep_lu, levelStep_bu]
    obtain ⟨phase, cause, valves, history, height, progress, closureEnd⟩ := State.levelAfter_unseen (lu ▸ hrestart) value
    rw [lu] at cause valves history height progress closureEnd
    have ends (hc : c.phase ≠ .fault) : u.cornerFaults false false :=
      ⟨side, lu ▸ hc, (u.levelAfter_phase ..).symm.trans phase⟩
    refine ⟨State.levelAfter_level_fault _ _ _ side phase, phase, cause, valves, history, height, progress, closureEnd,
      fun hc hd ha => ?_, fun ha => ?_⟩
    · rw [← lu] at ha ⊢
      refine ⟨fun hk => ?_, State.levelAfter_not_lowered ha (ends hc)⟩
      obtain ⟨kneel, sides⟩ := State.levelAfter_ends_kneel (drives.trans hd) ha hk (ends hc)
      refine ⟨kneel, sides, ?_⟩
      rw [State.setLevel_bu_of_freezes (by rw [kneel]; obtain h | h := hk <;> rw [h] <;> rfl), bu]
    · rw [← lu] at ha
      have step : u.kneelStep false false = (u.lu.kneel, u.lu.sides) := State.kneelStep_rests (.inr (.inl ha))
      obtain ⟨kneel, sides⟩ := u.levelAfter_holds false false (.inl (.inr ha))
      rw [step, lu] at kneel sides
      exact ⟨ha, kneel, sides⟩
  case restart =>
    intro dt s u hp hdue hrestart
    have lu : u.lu = s.lu := by simp [u]
    have li : u.li = s.li := by simp [u]
    refine ⟨fun hl => ⟨levelUpdate false u, runWhen_ready hp hdue, ?_⟩, fun hl => ?_⟩
    · clear_value u
      rw [levelUpdate_false, levelStep_lu]
      rw [← lu] at hrestart hl
      have faults : (u.lu.restartFault && u.lu.levelLatch) = true := by rw [hrestart, hl]; rfl
      have corner (x : Side) : ∃ named, (u.levelAfter false false).corner x =
          (((u.cornerRead false false x).clearBar (u.cornerView x)).toFault .timeout).withTravel named := by
        obtain ⟨named, e⟩ := u.levelAfter_corner false false x
        exact ⟨named, by rw [e, State.cornerStepped_restart _ _ _ _ faults]⟩
      refine ⟨?_, State.levelAfter_levelLatch _ _ hl, rfl, ?_, fun x => ?_⟩
      · obtain ⟨named, e⟩ := corner .left
        exact State.levelAfter_level_fault _ _ _ .left (by rw [e]; rfl)
      · have none : u.cornerTimesOut false false = false := by rw [State.cornerTimesOut, faults]; rfl
        rw [levelStep_li, none, ← li]
        rfl
      · obtain ⟨named, e⟩ := corner x
        rw [e]
        exact ⟨rfl, rfl, rfl, rfl⟩
    · have e : State.elapse dt { s with lu := { s.lu with restartFault := false } } =
          { u with lu := { u.lu with restartFault := false } } := by
        simp [u, State.elapse, hp]
      have ran : exec (.levelUpdate dt false) s = .next (levelUpdate false u) := runWhen_ready hp hdue
      have ran' : exec (.levelUpdate dt false) { s with lu := { s.lu with restartFault := false } } =
          .next (levelUpdate false { u with lu := { u.lu with restartFault := false } }) := by
        rw [← e]
        exact runWhen_ready hp (by rw [e]; exact hdue)
      rw [ran, ran', levelUpdate_restartFault (by rw [lu, hl])]
  case listening =>
    intro dt skirt s u band hp hdue hst hk hrestart
    have hd : u.drives = false := State.drives_of_listening (by simpa [u] using hst)
    have lu : u.lu = s.lu := by simp [u]
    have bu : u.bu = s.bu := by simp [u]
    have sc : u.sc = s.sc := by simp [u]
    have value (x : Side) : u.heightValue x = (s.channel (heightChannel x)).reading := by simp [u, State.heightValue]
    refine ⟨levelUpdate skirt u, runWhen_ready hp hdue, ?_⟩
    clear_value u
    rw [← lu] at hk hrestart
    have quiet : u.skirtListens = false := by simp [State.skirtListens, hk, KneelPhase.lowered]
    rw [levelUpdate_of_quiet (.inr quiet), levelStep_lu, levelStep_bu]
    have kneel := State.levelAfter_stopped_kneel hd hk skirt
    have target (x : Side) : ((u.levelAfter skirt false).corner x).target = s.sc.prof.rideHeight := by
      rw [State.levelAfter_stopped_target hd hk, sc]
    have mayOpen := State.cornerView_shut hd
    have seen (x : Side) : (u.cornerView x).seen = ((s.channel (heightChannel x)).reading).isSome := by
      rw [State.cornerView, value]
    have stepped (x : Side) := u.cornerStepped_phaseStep skirt false x (by rw [hrestart]; rfl)
    refine ⟨kneel, (State.setLevel_bu_of_freezes (by rw [kneel, hk])).trans bu, fun x => ?_, fun hall => ?_⟩
    · rw [← lu, ← seen]
      obtain ⟨named, corner⟩ := u.levelAfter_corner skirt false x
      obtain ⟨fill, exhaust, pulse, -⟩ :=
        ((u.cornerRead skirt false x).clearBar (u.cornerView x)).phaseStep_opens_none (mayOpen x)
      rw [← stepped] at fill exhaust pulse
      have found (p : CornerPhase) (h : (u.lu.corner x).phase = p) :
          ((u.cornerRead skirt false x).clearBar (u.cornerView x)).phase = p := by simpa using h
      refine ⟨fun h => ?_, fun h => ?_, target x, ?_, fun h => ?_, fun h hc => ?_⟩
      · rw [corner]; exact fill (by simpa using h)
      · rw [corner]; exact exhaust (by simpa using h)
      · rw [corner]; exact pulse.trans (by simp)
      · rw [State.levelAfter_phase, stepped]
        cases hs : (u.cornerView x).seen with
        | true => rw [Corner.phaseStep_steady_rests hs (found _ h) (mayOpen x)]; exact found _ h
        | false => rw [Corner.phaseStep_unseen hs, if_neg (by rw [found _ h]; simp)]; rfl
      · rw [State.levelAfter_phase, stepped]
        cases hs : (u.cornerView x).seen with
        | true =>
          rw [Corner.phaseStep_fault_leaves (found _ h) (by simp [Corner.mayLeave, hc, hs])]
          rfl
        | false => rw [Corner.phaseStep_unseen hs, if_pos (found _ h)]; exact found _ h
    · rw [← lu] at hall
      have level := State.levelAfter_stopped_level hd hk hrestart (fun x => by rw [value]; exact hall x) skirt
      rwa [sc] at level

end Sys2Proof.Machine
end

section
/-! PROOF. The cab unit (R167, R192): the kneel-request latch, the lamp test and the telltales. -/

namespace Sys2Proof.Machine

/-! ### The kneel-request latch (R167) -/

section
variable {latch : KneelRequest} {p : ButtonLevels}

theorem kneelAfter_raise (h : p.raise = true) : kneelAfter latch p = .none := if_pos h

theorem kneelAfter_both (hr : p.raise = false) (h1 : p.left = true) (h2 : p.right = true) :
    kneelAfter latch p = .both := by
  simp [kneelAfter, hr, h1, h2]

theorem kneelAfter_left (hr : p.raise = false) (h1 : p.left = true) (h2 : p.right = false) :
    kneelAfter latch p = if latch = .none ∨ latch = .left then .left else .both := by
  cases latch <;> simp [kneelAfter, hr, h1, h2]

theorem kneelAfter_right (hr : p.raise = false) (h1 : p.left = false) (h2 : p.right = true) :
    kneelAfter latch p = if latch = .none ∨ latch = .right then .right else .both := by
  cases latch <;> simp [kneelAfter, hr, h1, h2]

theorem kneelAfter_rests (hr : p.raise = false) (h1 : p.left = false) (h2 : p.right = false) :
    kneelAfter latch p = latch := by
  simp [kneelAfter, hr, h1, h2]

end

/-- With the hold switch on the latch follows the presses. -/
theorem CabUnit.kneelLatchAfter_on {c : CabUnit} {i : CabInputs} {b : ButtonLevels} (hi : i.holdSwitch = true)
    (hb : c.buttons = some b) : c.kneelLatchAfter i = kneelAfter c.kneelLatch
      ⟨i.kneelLeft && !b.left, i.kneelRight && !b.right, i.raise && !b.raise⟩ := by
  simp only [CabUnit.kneelLatchAfter, cabHold_on hi, hb]
  rfl

theorem cabUpdate_buttons {i : CabInputs} {s : State} (hd : s.drives = true) :
    (cabUpdate i s).cu.buttons = some ⟨i.kneelLeft, i.kneelRight, i.raise⟩ := by
  rw [cabUpdate_eq hd]
  simp only [telltaleStep_cu, writeDemand_frame]
  rfl

/-! ### LISTENING (R127) -/

/-- In LISTENING a cab update reads the acknowledge button and judges the telltales alone. -/
theorem cabUpdate_listening {i : CabInputs} {s : State} (hd : s.drives = false) : cabUpdate i s =
    let t := telltaleStep { s with cu := s.cu.acknowledge i.acknowledge }
    { t with sched := { t.sched with cab := some (later s.now Config.cabPeriod) } } := by
  simp [cabUpdate, hd]

/-! ### The telltales (R192) -/

theorem Telltale.recent_iff (t : Telltale) (now : Time) :
    t.recent now = true ↔ ∃ a, t.last = some a ∧ (now - a).toNat ≤ 2000000 := by
  unfold Telltale.recent
  cases t.last with
  | none => simp
  | some a => exact decide_eq_true_iff.trans ⟨fun h => ⟨a, rfl, h⟩, fun ⟨b, hb, h⟩ => by cases hb; exact h⟩

theorem mem_allStations (n : Fin 8) : n ∈ allStations := by decide +revert

theorem State.latchShown_iff (s : State) (g : Group) :
    s.latchShown g = true ↔ ∃ n r, s.freshStatus n = some r ∧ r.latches.shows g = true := by
  simp only [State.latchShown, List.any_eq_true]
  refine ⟨fun ⟨n, _, h⟩ => ?_, fun ⟨n, r, hr, h⟩ => ⟨n, mem_allStations n, by rw [hr]; exact h⟩⟩
  split at h
  next r hr => exact ⟨n, r, hr, h⟩
  · cases h

/-- A row as the table judges it. -/
theorem State.judgedTable_row (s : State) (g : Group) : s.judgedTable.row g = s.judged g (s.cu.telltales.row g) := by
  cases g <;> rfl

/-- Once the lamp test has ended a cab update leaves the table judged. -/
theorem telltaleStep_judged {s : State} (h : s.cu.lampOver = true) :
    telltaleStep s = { s with cu := { s.cu with telltales := s.judgedTable, lampOver := true } } :=
  if_pos (by simp [State.lampEnded, h])

/-- The state on which a cab update judges the telltales. -/
def State.cabBeforeLamps (i : CabInputs) (s : State) : State :=
  let t := { s with cu := s.cu.acknowledge i.acknowledge }
  if s.drives then cabDrive i t else t

/-- It has written no lamp item. -/
theorem State.cabBeforeLamps_lamps (i : CabInputs) (s : State) :
    (s.cabBeforeLamps i).cu.telltales = s.cu.telltales ∧ (s.cabBeforeLamps i).cu.lampOver = s.cu.lampOver ∧
    (s.cabBeforeLamps i).now = s.now := by
  simp only [State.cabBeforeLamps]
  split
  · simp [cabDrive, State.votedCab, CabUnit.acknowledge]
  · simp [CabUnit.acknowledge]

/-- A row after a cab update that judges the table, and the STATUS records it is judged by. -/
theorem cabUpdate_row {i : CabInputs} {s : State} (h : s.cu.lampOver = true) (g : Group) :
    (cabUpdate i s).cu.telltales.row g = (s.cabBeforeLamps i).judged g (s.cu.telltales.row g) ∧
    ∀ n, (cabUpdate i s).freshStatus n = (s.cabBeforeLamps i).freshStatus n := by
  obtain ⟨telltales, lampOver, -⟩ := s.cabBeforeLamps_lamps i
  have e : cabUpdate i s =
      let t := telltaleStep (s.cabBeforeLamps i)
      { t with sched := { t.sched with cab := some (later s.now Config.cabPeriod) } } := rfl
  rw [e, telltaleStep_judged (lampOver.trans h)]
  exact ⟨by rw [← telltales]; exact State.judgedTable_row .., fun n => rfl⟩

/-- Settles O37: the presses on the latch, LISTENING, the lamp test, and each row of the table. -/
theorem cabKneelAndLamps : Obligations.CabKneelAndLamps := by
  intro dt i s u hp
  have cu : u.cu = s.cu := by simp [u]
  refine ⟨fun b hdue hdrives hi hb => ?buttons, fun hdue hst => ?listening, fun hown hover hl => ?lampEnd,
    fun hdue hover => ?table⟩
  case buttons =>
    have hd : u.drives = true := (State.elapse_drives ..).trans hdrives
    intro left right raise
    refine ⟨cabUpdate i u, runWhen_ready hp hdue, cabUpdate_buttons hd, ?_⟩
    obtain ⟨-, -, -, latch, -⟩ := cabUpdate_cu (i := i) hd
    rw [cu, CabUnit.kneelLatchAfter_on hi hb] at latch
    have hleft : (i.kneelLeft && !b.left) = true ↔ left := by simp [left]
    have hright : (i.kneelRight && !b.right) = true ↔ right := by simp [right]
    have hraise : (i.raise && !b.raise) = true ↔ raise := by simp [raise]
    simp only [← hleft, ← hright, ← hraise, Bool.not_eq_true, latch]
    exact ⟨fun h => kneelAfter_raise h, fun hr h1 h2 => kneelAfter_both hr h1 h2,
      fun hr h1 h2 => kneelAfter_left hr h1 h2, fun hr h1 h2 => kneelAfter_right hr h1 h2, fun hr h1 h2 => kneelAfter_rests hr h1 h2⟩
  case listening =>
    have hd : u.drives = false := State.drives_of_listening (by simpa [u] using hst)
    refine ⟨cabUpdate i u, runWhen_ready hp hdue, ?_⟩
    rw [cabUpdate_listening hd]
    simp only [telltaleStep_frame, telltaleStep_cu]
    exact ⟨by simp [u], by simp [u], by rw [cu]; rfl, rfl⟩
  case lampEnd =>
    have due : u.lampDue = true := by
      have cab : u.isCab = true := by simp [State.isCab, u, hown]
      rw [State.lampDue, cab, cu, hover]
      exact hl
    exact runWhen_ready hp due
  case table =>
    refine ⟨cabUpdate i u, runWhen_ready hp hdue, fun g => ?_⟩
    obtain ⟨row, fresh⟩ := cabUpdate_row (i := i) (by rw [cu]; exact hover) g
    obtain ⟨-, -, now⟩ := u.cabBeforeLamps_lamps i
    rw [row, cu]
    refine ⟨rfl, ?_⟩
    simp only [fresh, ← State.latchShown_iff, State.judged, Bool.or_eq_true, Telltale.recent_iff, now]

end Sys2Proof.Machine
end

section
/-! PROOF. The line interface (R22 to R37): its times, its characters and its requests. -/

namespace Sys2Proof.Machine

@[simp] theorem State.elapse_lineWorks (dt : Nat) (s : State) : (s.elapse dt).lineWorks = s.lineWorks := by
  simp [State.lineWorks]

@[simp] theorem State.elapse_bitTime (dt : Nat) (s : State) : (s.elapse dt).bitTime = s.sc.prof.bitTime := by
  simp [State.bitTime]

/-! ### The times of the line (R23, R25, R33) -/

/-- An open frame whose gap has passed 20 bit times, on an idle line (R23). -/
theorem State.gapDue_iff (s : State) : s.gapDue = true ↔ s.lineWorks = true ∧ s.li.frame ≠ none ∧ s.li.startBit = none ∧
    s.li.lineActive = false ∧ 20 * s.bitTime < (s.now - s.li.lastChar).toNat := by
  simp only [State.gapDue, Bool.and_eq_true, Option.isSome_iff_ne_none, Option.isNone_iff_eq_none, Bool.not_eq_true',
    State.gapPassed, decide_eq_true_eq, and_assoc]
  rfl

/-- A wait of 20 bit times of idle line (R25). -/
theorem State.idleWaitDue_iff (s : State) : s.idleWaitDue = true ↔ s.lineWorks = true ∧ s.li.startBit = none ∧
    s.li.lineActive = false ∧ ∃ since, s.li.mode = .waiting since ∧ 20 * s.bitTime ≤ (s.now - since).toNat := by
  simp only [State.idleWaitDue, Bool.and_eq_true, Option.isNone_iff_eq_none, Bool.not_eq_true', and_assoc]
  cases s.li.mode with
  | waiting since =>
    simp only [decide_eq_true_eq, ReceiveMode.waiting.injEq, exists_eq_left']
    rfl
  | off | taking => simp

/-- Settles O19: each command by its condition, and the idle command where it does not hold. -/
theorem lineTimes : Obligations.LineTimes := by
  intro dt s u hp hworks
  have li : u.li = s.li := by simp [u]
  have works : u.lineWorks = true := by simpa [u] using hworks
  have bitTime : u.bitTime = s.sc.prof.bitTime := State.elapse_bitTime ..
  refine ⟨fun hbusy => ?_, fun hs ha hf hgap => ?_, fun since hs ha hm hwait => ?_, fun f hf hlong => ?_⟩
  · refine ⟨runWhen_idle ?_, runWhen_idle ?_⟩
    · rw [Bool.eq_false_iff, Ne, State.gapDue_iff, li]
      rintro ⟨-, -, hs, ha, -⟩
      exact hbusy.elim (fun h => h hs) fun h => by rw [ha] at h; cases h
    · rw [Bool.eq_false_iff, Ne, State.idleWaitDue_iff, li]
      rintro ⟨-, hs, ha, -⟩
      exact hbusy.elim (fun h => h hs) fun h => by rw [ha] at h; cases h
  · have due : u.gapDue = true := (u.gapDue_iff).mpr ⟨works, by rwa [li], by rwa [li], by rwa [li], by rwa [li, bitTime]⟩
    refine (runWhen_ready hp due).trans ?_
    change Host.Outcome.next (frameGapTimeout u) = _
    rw [frameGapTimeout, bitTime, li]
    rfl
  · have due : u.idleWaitDue = true :=
      (u.idleWaitDue_iff).mpr ⟨works, by rwa [li], by rwa [li], since, by rwa [li], by rwa [bitTime]⟩
    refine (runWhen_ready hp due).trans ?_
    change Host.Outcome.next (idleWaitComplete u) = _
    simp only [idleWaitComplete, li, hm]
  · have due : u.sentWhole = true := by
      simp only [State.sentWhole, li, hf, bitTime]
      exact decide_eq_true hlong
    exact runWhen_ready hp due

/-! ### The periodic requests (R34, R37) -/

/-- Settles O22: each request with its next time. -/
theorem periodicRequests : Obligations.PeriodicRequests := by
  intro dt s u hp
  have sched : u.sched = s.sched := by simp [u]
  have sc : u.sc = s.sc := by simp [u]
  refine ⟨fun hworks hpass => ?_, fun hruns hpass => ?_⟩
  · have due : u.statusDue = true := by
      have works : u.lineWorks = true := by simpa [u] using hworks
      rw [State.statusDue, works, sched, hpass]
      rfl
    refine (runWhen_ready hp due).trans ?_
    change Host.Outcome.next (statusRequest u) = _
    rw [← sc]
    rfl
  · have due : u.noticeDue = true := by
      have runs : u.runs = true := by simpa [u] using hruns
      rw [State.noticeDue, runs, sched, hpass]
      rfl
    refine (runWhen_ready hp due).trans ?_
    change Host.Outcome.next (noticeInterval u) = _
    rw [← sc, noticeInterval]
    cases hsum : u.li.summary with
    | nil => simp
    | cons k l => simp [State.request, TransmitSet.set]

/-! ### The leading edge of a start bit (R23, R25, R28) -/

section
variable {s : State}

/-- Inside a character, or on an active line, there is no leading edge (log entries 23 and 43). -/
theorem startBit_ignored (h : s.li.startBit ≠ none ∨ s.li.lineActive = true) : startBit s = s := by
  refine if_pos ?_
  rwa [Bool.or_eq_true, Option.isSome_iff_ne_none]

section
variable (hs : s.li.startBit = none) (ha : s.li.lineActive = false)
include hs ha

theorem startBit_seen : startBit s = match s.li.mode with
    | .off => s
    | .waiting _ => { s with li := { s.li with mode := .waiting s.now, startBit := some s.now } }
    | .taking =>
      match s.li.sending with
      | some _ => s
      | none => { s with li := { s.li with
          startBit := some s.now, quiet := none, frame := if s.gapPassed then none else s.li.frame } } :=
  if_neg (by simp [hs, ha])

theorem startBit_waiting {since : Time} (hm : s.li.mode = .waiting since) :
    startBit s = { s with li := { s.li with mode := .waiting s.now, startBit := some s.now } } := by
  simp only [startBit_seen hs ha, hm]

theorem startBit_taking (hm : s.li.mode = .taking) (hn : s.li.sending = none) :
    startBit s = { s with li := { s.li with
      startBit := some s.now, quiet := none, frame := if s.gapPassed then none else s.li.frame } } := by
  simp only [startBit_seen hs ha, hm, hn]

end

/-- Where the interface is off, or sends, a start bit is none. -/
theorem startBit_none (h : s.li.mode = .off ∨ s.li.mode = .taking ∧ s.li.sending ≠ none) : startBit s = s := by
  by_cases hb : s.li.startBit ≠ none ∨ s.li.lineActive = true
  · exact startBit_ignored hb
  · rw [not_or, Bool.not_eq_true, not_ne_iff] at hb
    rw [startBit_seen hb.1 hb.2]
    obtain h | ⟨hm, hn⟩ := h
    · simp only [h]
    · obtain ⟨f, hf⟩ := Option.ne_none_iff_exists'.mp hn
      simp only [hm, hf]

/-! ### The stop bit (R23, R25, R28) -/

theorem characterTaken_off {char : Byte} {good : Bool} (hm : s.li.mode = .off) : characterTaken char good s =
    if good then s else { s with li := { s.li with lineActive := true } } := by
  simp only [characterTaken, hm]

theorem characterTaken_waiting {char : Byte} {good : Bool} {since : Time} (hm : s.li.mode = .waiting since) :
    characterTaken char good s = { s with li := { s.li with
      mode := .waiting s.now, startBit := none, lineActive := s.li.lineActive || !good } } := by
  simp only [characterTaken, hm]

section
variable {char : Byte} {good : Bool} (hm : s.li.mode = .taking)
include hm

theorem characterTaken_sending (hn : s.li.sending ≠ none) : characterTaken char good s = s := by
  obtain ⟨f, hf⟩ := Option.ne_none_iff_exists'.mp hn
  simp only [characterTaken, hm, hf]

variable (hn : s.li.sending = none)
include hn

/-- A stop bit of which no start bit was seen (log entry 23). -/
theorem characterTaken_unseen (hs : s.li.startBit = none) :
    characterTaken char good s = if good then s else s.lineHeld := by
  simp only [characterTaken, hm, hn, hs]

variable (hs : s.li.startBit ≠ none)
include hs

theorem characterTaken_bad : characterTaken char false s = badChar s.charTaken := by
  obtain ⟨b, hb⟩ := Option.ne_none_iff_exists'.mp hs
  simp [characterTaken, hm, hn, hb]

theorem characterTaken_outside (hf : s.li.frame = none) : characterTaken char true s = outsideChar char s.charTaken := by
  obtain ⟨b, hb⟩ := Option.ne_none_iff_exists'.mp hs
  simp [characterTaken, hm, hn, hb, hf]

theorem characterTaken_inside {chars : List Byte} (hf : s.li.frame = some chars) :
    characterTaken char true s = insideChar chars char s.charTaken := by
  obtain ⟨b, hb⟩ := Option.ne_none_iff_exists'.mp hs
  simp [characterTaken, hm, hn, hb, hf]

end

/-! ### A character outside a frame and inside one (R23) -/

theorem outsideChar_start {char : Byte} (h : char = 0xC3) : outsideChar char s =
    { s with li := { s.li with frame := some [], quiet := none, lastChar := s.now } } := if_pos h

theorem outsideChar_other {char : Byte} (h : char ≠ 0xC3) : outsideChar char s = s.quietNow := if_neg h

section
variable {chars : List Byte} {char : Byte}

/-- The third character of a frame is its body length. -/
theorem insideChar_long (hl : chars.length = 2) (hc : 25 < char.toNat) : insideChar chars char s = s.quietNow := by
  refine if_pos ⟨by simp [hl], ?_⟩
  exact hc

/-- Byte 2 of the characters, once there are three. -/
theorem byteAt_append_of_lt {i : Nat} (h : i < chars.length) : byteAt (chars ++ [char]) i = byteAt chars i := by
  rw [byteAt, byteAt, List.getD_append _ _ _ _ h]

theorem frameComplete_append (h : 3 ≤ chars.length) :
    frameComplete (chars ++ [char]) = true ↔ chars.length + 1 = 5 + byteAt chars 2 := by
  rw [frameComplete, Bool.and_eq_true, decide_eq_true_eq, decide_eq_true_eq, byteAt_append_of_lt (by omega)]
  simp only [List.length_append, List.length_singleton]
  exact ⟨fun ⟨_, e⟩ => e, fun e => ⟨by omega, e⟩⟩

theorem insideChar_last (h : 3 ≤ chars.length) (he : chars.length + 1 = 5 + byteAt chars 2) :
    insideChar chars char s = { s.quietNow with li := { s.quietNow.li with complete := some ⟨chars ++ [char], s.now⟩ } } := by
  have third : ¬((chars ++ [char]).length = 3 ∧ Config.maxBody < char.toNat) := by simp; omega
  rw [insideChar, if_neg third, if_pos ((frameComplete_append h).mpr he)]

theorem insideChar_more (h : chars.length < 2 ∨ (chars.length = 2 ∧ char.toNat ≤ 25) ∨
      (3 ≤ chars.length ∧ chars.length + 1 < 5 + byteAt chars 2)) :
    insideChar chars char s =
      { s with li := { s.li with frame := some (chars ++ [char]), quiet := none, lastChar := s.now } } := by
  have third : ¬((chars ++ [char]).length = 3 ∧ Config.maxBody < char.toNat) := by
    simp only [List.length_append, List.length_singleton, Config.maxBody]
    omega
  have whole : ¬frameComplete (chars ++ [char]) = true := by
    obtain h | h | ⟨h, hl⟩ := h
    · simp only [frameComplete, Bool.and_eq_true, decide_eq_true_eq, List.length_append, List.length_singleton]
      omega
    · simp only [frameComplete, Bool.and_eq_true, decide_eq_true_eq, List.length_append, List.length_singleton]
      omega
    · rw [frameComplete_append h]
      omega
  rw [insideChar, if_neg third, if_neg whole]

end

/-! ### The return to the idle level (R25) -/

theorem State.lineActive_self (h : s.li.lineActive = false) :
    ({ s with li := { s.li with lineActive := false } } : State) = s := by
  rw [← h]

/-- A line at the idle level returns from nothing. -/
theorem lineIdle_idle (h : s.li.lineActive = false) : lineIdle s = s := if_neg (by simp [h])

theorem lineIdle_off (hm : s.li.mode = .off) : lineIdle s = { s with li := { s.li with lineActive := false } } := by
  cases ha : s.li.lineActive with
  | false => rw [lineIdle_idle ha, State.lineActive_self ha]
  | true => simp [lineIdle, ha, hm]

theorem lineIdle_waiting {since : Time} (ha : s.li.lineActive = true) (hm : s.li.mode = .waiting since) :
    lineIdle s = { s with li := { s.li with mode := .waiting s.now, lineActive := false } } := by
  simp [lineIdle, ha, hm]

theorem lineIdle_taking (ha : s.li.lineActive = true) (hm : s.li.mode = .taking) (hn : s.li.sending = none)
    (hf : s.li.frame = none) : lineIdle s = { s with li := { s.li with quiet := some s.now, lineActive := false } } := by
  simp [lineIdle, ha, hm, hn, hf]

end

/-! ### The command -/

theorem exec_characterReceived {dt : Nat} {s : State} (char : Byte) (i : CharacterInstant) (hp : s.powered = true) :
    exec (.characterReceived dt char i) s = .next (characterReceived char i (s.elapse dt)) :=
  runWhen_ready hp rfl

theorem characterReceived_works {s : State} (char : Byte) (h : s.lineWorks = true) :
    characterReceived char .startBit s = startBit s ∧ characterReceived char .lineIdle s = lineIdle s ∧
    ∀ good, characterReceived char (.stopBit good) s = characterTaken char good s :=
  ⟨if_pos h, if_pos h, fun _ => if_pos h⟩

theorem characterReceived_seen {s : State} (char : Byte) (i : CharacterInstant) (h : s.lineWorks = false) :
    characterReceived char i s = s.lineSeen i := if_neg (by simp [h])

/-- Settles O18: the three instants of a character by the receive half's mode, frame and start bit. -/
theorem lineCharacters : Obligations.LineCharacters := by
  intro dt char good s u starts ends returns quietNow damaged inFrame hp
  have hstarts : starts = .next (characterReceived char .startBit u) := exec_characterReceived _ _ hp
  have hends : ends = .next (characterReceived char (.stopBit good) u) := exec_characterReceived _ _ hp
  have hreturns : returns = .next (characterReceived char .lineIdle u) := exec_characterReceived _ _ hp
  have li : u.li = s.li := by simp [u]
  have works : u.lineWorks = s.lineWorks := State.elapse_lineWorks ..
  have gap : u.gapPassed = decide (20 * s.sc.prof.bitTime < (u.now - s.li.lastChar).toNat) := by
    rw [State.gapPassed, State.elapse_bitTime, li]; rfl
  rw [hstarts, hends, hreturns]
  clear_value u
  simp only [Host.Outcome.next.injEq]
  rw [← li]
  refine ⟨fun h => ?_, fun hw => ?_⟩
  · cases hw : s.lineWorks with
    | false =>
      rw [characterReceived_seen _ _ (works.trans hw), characterReceived_seen _ _ (works.trans hw),
        characterReceived_seen _ _ (works.trans hw)]
      exact ⟨rfl, rfl, rfl⟩
    | true =>
      have hm : u.li.mode = .off := h.resolve_left (by simp [hw])
      obtain ⟨e1, e2, e3⟩ := characterReceived_works char (works.trans hw)
      rw [e1, e2, e3, startBit_none (.inl hm), lineIdle_off hm, characterTaken_off hm]
      exact ⟨rfl, rfl, rfl⟩
  · obtain ⟨e1, e2, e3⟩ := characterReceived_works char (works.trans hw)
    rw [e1, e2, e3]
    refine ⟨startBit_ignored, lineIdle_idle, fun since hm => ⟨fun hs ha => startBit_waiting hs ha hm,
      characterTaken_waiting hm, fun ha => lineIdle_waiting ha hm⟩, fun hm hn => ⟨startBit_none (.inr ⟨hm, hn⟩),
      characterTaken_sending hm hn⟩, fun hm hn hs => ⟨?_, fun ha => ?_, fun ha hf => lineIdle_taking ha hm hn hf⟩,
      fun hm hn hs => ⟨fun hg => ?_, fun hf hg => ⟨fun hc => ?_, fun hc => ?_⟩, fun chars hf hg => ?_⟩⟩
    · exact characterTaken_unseen hm hn hs
    · rw [startBit_taking hs ha hm hn, gap, li]
      simp only [decide_eq_true_eq]
    · rw [hg, characterTaken_bad hm hn hs]
      rfl
    · rw [hg, characterTaken_outside hm hn hs hf, outsideChar_start hc]
      rfl
    · rw [hg, characterTaken_outside hm hn hs hf, outsideChar_other hc]
      rfl
    · rw [hg, characterTaken_inside hm hn hs hf]
      refine ⟨fun h1 h2 => ?_, fun h1 h2 => ?_, fun h => ?_⟩
      · rw [insideChar_long h1 h2]; rfl
      · rw [insideChar_last h1 h2]; rfl
      · rw [insideChar_more h]; rfl

/-! ### A notice arrival (R192) -/

theorem Telltales.note_row (t : Telltales) (a : Time) (g h : Group) :
    (t.note a g).row h = if g = h then { t.row h with last := some a } else t.row h := by
  cases g <;> cases h <;> rfl

/-- Each group of the kinds takes the arrival as its last notice. -/
theorem Telltales.noteAll_row (ks : List EventKind) (a : Time) (g : Group) (t : Telltales) :
    ((∃ k ∈ ks, k.group = g) →
      (ks.foldl (fun t k => t.note a k.group) t).row g = { t.row g with last := some a }) ∧
    ((∀ k ∈ ks, k.group ≠ g) → (ks.foldl (fun t k => t.note a k.group) t).row g = t.row g) := by
  induction ks generalizing t with
  | nil => simp
  | cons k ks ih =>
    obtain ⟨named, other⟩ := ih (t.note a k.group)
    rw [Telltales.note_row] at named other
    simp only [List.foldl_cons, List.exists_mem_cons_iff, List.forall_mem_cons]
    refine ⟨fun h => ?_, fun ⟨hk, h⟩ => ?_⟩
    · by_cases hks : ∃ k ∈ ks, k.group = g
      · rw [named hks]
        split <;> rfl
      · rw [other fun x hx e => hks ⟨x, hx, e⟩, if_pos (h.resolve_right hks)]
    · rw [other h, if_neg hk]

/-- At the CAB a notice changes the telltale table alone, and at another station nothing. -/
theorem noteNotice_eq (ks : List EventKind) (a : Time) (s : State) : noteNotice ks a s =
    { s with cu := { s.cu with telltales :=
        if s.isCab then ks.foldl (fun t k => t.note a k.group) s.cu.telltales else s.cu.telltales } } := by
  unfold noteNotice
  split <;> rfl

theorem State.isCab_iff (s : State) : s.isCab = true ↔ s.own = .cab := by
  unfold State.isCab
  cases s.own <;> simp

/-- The rows after a notice arrival at the CAB. -/
theorem noteNotice_row {s : State} (ks : List EventKind) (a : Time) (h : s.own = .cab) (g : Group) :
    ((∃ k ∈ ks, k.group = g) →
      (noteNotice ks a s).cu.telltales.row g = { s.cu.telltales.row g with last := some a }) ∧
    ((∀ k ∈ ks, k.group ≠ g) → (noteNotice ks a s).cu.telltales.row g = s.cu.telltales.row g) := by
  rw [noteNotice_eq, if_pos (s.isCab_iff.mpr h)]
  exact Telltales.noteAll_row ks a g s.cu.telltales

theorem noteNotice_other {s : State} (ks : List EventKind) (a : Time) (h : s.own ≠ .cab) : noteNotice ks a s = s :=
  if_neg (mt s.isCab_iff.mp h)

/-! ### A frame begins (R31, R32) -/

/-- The line interface as a frame leaves with a body. -/
theorem afterLaunch_li (kind : FrameKind) (body : List Byte) (s : State) :
    (afterLaunch kind (launch kind body s)).li = { s.li with
      pending := s.li.pending.set false kind
      quiet := none
      sending := some ⟨kind, 0xC3 :: frameChars kind s.sc.strap body, s.now⟩
      statusSeq := s.li.statusSeq + (if kind = .status then 1 else 0)
      demandSeq := s.li.demandSeq + (if kind = .demand then 1 else 0)
      summary := if kind = .notice then [] else s.li.summary } := by
  cases kind <;> simp [afterLaunch, launch, noteNotice_eq, Config.startChar]

/-- What a frame that begins may write. -/
theorem afterLaunch_writes (kind : FrameKind) (body : List Byte) (s : State) :
    afterLaunch kind (launch kind body s) = { s with
      li := (afterLaunch kind (launch kind body s)).li
      cu := { s.cu with telltales := (afterLaunch kind (launch kind body s)).cu.telltales }
      draws := if kind = .status ∧ s.own.isAxle = true ∧ s.sc.station = .inert then s.draws + 1 else s.draws } := by
  have own : (launch kind body s).own = s.own := State.own_congr rfl
  cases kind with
  | status =>
    simp only [afterLaunch, own, Bool.and_eq_true, decide_eq_true_eq, true_and]
    rfl
  | demand | path => simp [afterLaunch, launch]
  | notice => simp [afterLaunch, launch, noteNotice_eq]

/-- Settles O20: the body of the moment, the line interface as the frame leaves, and the rest of the state. -/
theorem frameBegins : Obligations.FrameBegins := by
  intro dt kind s u hp
  have li : u.li = s.li := by simp [u]
  have cu : u.cu = s.cu := by simp [u]
  have sc : u.sc = s.sc := by simp [u]
  have pu : u.pu = s.pu := by simp [u]
  have pv : u.pv = s.pv := by simp [u]
  have draws : u.draws = s.draws := by simp [u]
  have own : u.own = s.own := State.elapse_own ..
  refine ⟨fun hbusy => runWhen_idle ?_, fun hm => ?_⟩
  · rw [Bool.eq_false_iff, Ne, State.mayBegin_iff]
    rintro ⟨-, -, -, -, -, hs, ha, -⟩
    simp only [State.elapse_frame] at hs ha
    exact hbusy.elim (fun h => h hs) fun h => by rw [ha] at h; cases h
  · obtain ⟨-, -, -, -, -, -, -, -, hbody⟩ := (u.mayBegin_iff kind).mp hm
    obtain ⟨body, hbody⟩ := Option.isSome_iff_exists.mp hbody
    have begun : frameBegin kind u = afterLaunch kind (launch kind body u) := by simp only [frameBegin, hbody]
    refine ⟨frameBegin kind u, body, runWhen_ready hp hm, hbody, ?_⟩
    clear_value u
    have line := afterLaunch_li kind body u
    have writes := afterLaunch_writes kind body u
    rw [← begun] at line writes
    have frame : frameBegin kind u = { u with
        li := (frameBegin kind u).li, cu := (frameBegin kind u).cu, draws := (frameBegin kind u).draws } := by rw [writes]
    rw [li, sc] at line
    rw [cu, draws, own, sc] at writes
    have noted (hk : kind = .notice) : (frameBegin kind u).cu = (noteNotice u.li.summary u.now u).cu := by
      rw [begun, hk]
      simp only [afterLaunch, noteNotice_eq]
      rfl
    refine ⟨line, fun hk => ?_, fun hk => ?_, fun p hk hx => ?_, fun q hk hx => ?_, frame, by rw [writes], fun h => ?_,
      by rw [writes], fun hc hk g => ?_⟩
    · rw [hk] at hbody
      exact (Option.some.inj hbody).symm
    · rw [hk] at hbody
      rw [← li]
      exact (Option.some.inj hbody).symm
    · rw [hk, State.bodyNow, pu, hx] at hbody
      exact (Option.some.inj hbody).symm
    · rw [hk, State.bodyNow, pv, hx, li] at hbody
      exact (Option.some.inj hbody).symm
    · by_cases hk : kind = .notice
      · rw [noted hk, noteNotice_other _ _ (by rw [← own] at h; exact h.resolve_right (not_not.mpr hk))]
        exact cu
      · rw [begun, ← cu]
        cases kind with
        | notice => exact absurd rfl hk
        | status | demand | path => rfl
    · rw [noted hk, ← li, ← cu]
      exact noteNotice_row u.li.summary u.now (own.trans hc) g

end Sys2Proof.Machine
end

section
/-! PROOF. The peer view (R39 to R51): the expiries, and what an accepted STATUS, DEMAND, PATH and NOTICE does (R27). -/

namespace Sys2Proof.Machine

/-! ### The expiries (R40, R42, R49) -/

/-- A FRESH peer record older than three STATUS periods (R40). -/
theorem State.statusExpired_iff (n : Fin 8) (s : State) : s.statusExpired n = true ↔ s.runs = true ∧ n ≠ s.sc.strap ∧
    (s.pv.peers[n]).freshness = .fresh ∧ s.sc.prof.statusLimit < (s.now - (s.pv.peers[n]).arrival).toNat := by
  simp only [State.statusExpired, Bool.and_eq_true, decide_eq_true_eq, and_assoc]
  rfl

theorem State.demandExpired_iff (s : State) : s.demandExpired = true ↔ s.runs = true ∧ s.own ≠ .cab ∧
    s.pv.demand.freshness = .fresh ∧ 30000 < (s.now - s.pv.demand.arrival).toNat := by
  simp only [State.demandExpired, Ne, ← State.isCab_iff, Bool.and_eq_true, Bool.not_eq_true', Bool.not_eq_true,
    decide_eq_true_eq, and_assoc]
  rfl

/-- A stored STALE mark reads STALE. -/
theorem State.demandFreshness_stale {s : State} (h : s.pv.demand.freshness = .stale) : s.demandFreshness = .stale := by
  simp only [State.demandFreshness, h]

/-- Settles O27: the three expiries by their conditions, with whole next states. -/
theorem peerExpiries : Obligations.PeerExpiries := by
  intro dt s u hp hruns
  have runs : u.runs = true := by simpa [u] using hruns
  have own : u.own = s.own := State.elapse_own ..
  have sc : u.sc = s.sc := by simp [u]
  have pv : u.pv = s.pv := by simp [u]
  have du : u.du = s.du := by simp [u]
  have li : u.li = s.li := by simp [u]
  refine ⟨fun n hn hf hold => ?_, fun hc hf hold => ?_, fun r hf hr he hold => ?_⟩
  · have due : u.statusExpired n = true := by
      rw [State.statusExpired_iff, sc, pv]
      exact ⟨runs, hn, hf, hold⟩
    refine ⟨statusExpiry n u, runWhen_ready hp due, ?_⟩
    clear_value u
    rw [statusExpiry, State.raiseIf_eq, ← sc, ← pv, ← li]
    exact ⟨Vector.getElem_set_self _, fun m hm => Vector.getElem_set_ne n.isLt m.isLt fun e => hm (Fin.ext e.symm), rfl, rfl⟩
  · have due : u.demandExpired = true := by
      rw [State.demandExpired_iff, own, pv]
      exact ⟨runs, hc, hf, hold⟩
    exact runWhen_ready hp due
  · have stale : u.demandFreshness = .stale := State.demandFreshness_stale (pv ▸ hf)
    have due : u.episodeDue = true := by
      rw [State.episodeDue, runs, stale, pv, he]
      exact decide_eq_true hold
    refine (runWhen_ready hp due).trans ?_
    change Host.Outcome.next (staleEpisodeBegin u) = _
    have frozen : u.frozenList = r.release.filter fun d => !(s.du.doors.any fun e => e.number == d && decide (e.state = .locked)) := by
      simp only [State.frozenList, State.demandRecord, State.ownsLocked, pv, he, hf, hr, du]
      rfl
    rw [staleEpisodeBegin, frozen]
    rfl

/-! ### A complete frame (R27) -/

theorem exec_frameReceived {dt : Nat} {s : State} (k : LockLevels) (hp : s.powered = true)
    (h : s.runs = true ∨ s.sc.station = .inert) :
    exec (.frameReceived dt k) s = .next (frameReceived k (s.elapse dt)) := by
  refine runWhen_ready hp ?_
  rw [State.elapse_lineWorks, State.lineWorks]
  obtain h | h := h <;> simp [h]

/-- A complete frame is judged where the units run. -/
theorem frameReceived_judged {s : State} {f : CompleteFrame} (k : LockLevels) (hr : s.runs = true)
    (hf : s.li.complete = some f) :
    frameReceived k s = applyVerdict k (s.arrivalOf f) (judge s.sc.prof s.sc.strap f.chars) s.frameTaken := by
  simp only [frameReceived, hf, hr, if_true]
  rfl

/-- An accepted frame is handed on, and reported to station control. -/
theorem exec_frameAccepted {dt : Nat} {s : State} {f : CompleteFrame} {n : Fin 8} {x : Frame} (k : LockLevels)
    (hp : s.powered = true) (hr : s.runs = true) (hf : s.li.complete = some f)
    (hj : judge s.sc.prof s.sc.strap f.chars = .accepted n x) :
    exec (.frameReceived dt k) s = .next
      (reportPeer (f.detected - BitVec.ofNat 32 s.sc.prof.latency)
        (handOn k n x (f.detected - BitVec.ofNat 32 s.sc.prof.latency) (s.elapse dt).frameTaken)) := by
  have sc : (s.elapse dt).sc = s.sc := by simp
  rw [exec_frameReceived k hp (.inl hr), frameReceived_judged k (by simpa using hr) (by simpa using hf), sc, hj]
  simp only [applyVerdict, State.arrivalOf, sc]

/-! ### An accepted STATUS (R40, R41, R45, R61) -/

/-- The known speeds are read from the peer table, the own speed and what says which stations there are (R43). -/
theorem State.knownSpeeds_congr {s t : State} (hprof : t.sc.prof = s.sc.prof) (hstrap : t.sc.strap = s.sc.strap)
    (hruns : t.runs = s.runs) (hpeers : t.pv.peers = s.pv.peers) (hnow : t.now = s.now) (hpc : t.pc = s.pc) :
    t.knownSpeeds = s.knownSpeeds := by
  have own : t.own = s.own := by rw [State.own, State.own, hprof, hstrap]
  simp only [State.knownSpeeds, State.peerStatus, State.peerFresh, own, hprof, hstrap, hruns, hpeers, hnow, hpc]
  rfl

/-- The state with a STATUS stored, before its motion stamp. -/
def State.statusStored (n : Fin 8) (r : StatusRec) (a : Time) (s : State) : State :=
  storeStatus n r a (s.raiseIf (s.newlyDisagrees n r) .profileMismatch)

theorem State.statusStored_eq (n : Fin 8) (r : StatusRec) (a : Time) (s : State) : s.statusStored n r a = { s with
    pv := { s.pv with peers := s.pv.peers.set n ⟨some r, a, .fresh, some r.signature⟩ }
    li := { s.li with summary :=
      if s.newlyDisagrees n r then insertKind .profileMismatch s.li.summary else s.li.summary } } := by
  rw [State.statusStored, State.raiseIf_eq]
  rfl

theorem pathLeadingReport_eq (n : Fin 8) (r : StatusRec) (s : State) : pathLeadingReport n r s = { s with
    pu := if s.keepsQueue ∧ s.sc.prof.leading = some n ∧ r.emptiesQueue = true then
      { s.pu with queue := [], queueEpoch := none } else s.pu } := by
  unfold pathLeadingReport
  split <;> rfl

/-- What an accepted STATUS leaves: the record and stamp of the peer view, the summary, and the path queue (R40 to R45, R61). -/
theorem acceptStatus_eq (n : Fin 8) (r : StatusRec) (a : Time) (s : State) : acceptStatus n r a s =
    { s with
      pv := { s.pv with
        peers := s.pv.peers.set n ⟨some r, a, .fresh, some r.signature⟩
        lastMoving := (stampMotion s.knownSpeeds.isEmpty r a (s.statusStored n r a)).pv.lastMoving }
      li := { s.li with summary := if s.newlyDisagrees n r then insertKind .profileMismatch s.li.summary else s.li.summary }
      pu := if s.keepsQueue ∧ s.sc.prof.leading = some n ∧ r.emptiesQueue = true then
        { s.pu with queue := [], queueEpoch := none } else s.pu } := by
  have stamped : stampMotion s.knownSpeeds.isEmpty r a (s.statusStored n r a) = { s with
      pv := { s.pv with
        peers := s.pv.peers.set n ⟨some r, a, .fresh, some r.signature⟩
        lastMoving := (stampMotion s.knownSpeeds.isEmpty r a (s.statusStored n r a)).pv.lastMoving }
      li := { s.li with summary :=
        if s.newlyDisagrees n r then insertKind .profileMismatch s.li.summary else s.li.summary } } := by
    rw [State.statusStored_eq]
    rfl
  change pathLeadingReport n r (stampMotion s.knownSpeeds.isEmpty r a (s.statusStored n r a)) = _
  rw [stamped, pathLeadingReport_eq]
  rfl

/-- The motion stamp of an accepted STATUS (R45; log entry 11). -/
theorem stampMotion_cases (r : StatusRec) (a : Time) (s : State) (empty : Bool) :
    (empty = true → s.knownSpeeds ≠ [] → (stampMotion empty r a s).pv.lastMoving = some s.now) ∧
    (empty = false ∨ s.knownSpeeds = [] →
      (∀ v, r.speed? = some v → 0 < v → (stampMotion empty r a s).pv.lastMoving = some a) ∧
      (r.speed? = none ∨ r.speed? = some 0 → (stampMotion empty r a s).pv.lastMoving = s.pv.lastMoving)) := by
  refine ⟨fun he hk => ?_, fun h => ?_⟩
  · have : s.knownSpeeds.isEmpty = false := by simpa using hk
    simp [stampMotion, he, this]
  · have : (empty && !s.knownSpeeds.isEmpty) = false := by obtain h | h := h <;> simp [h]
    refine ⟨fun v hv hpos => ?_, fun h => ?_⟩
    · simp [stampMotion, this, hv, hpos]
    · obtain h | h := h <;> simp [stampMotion, this, h]

/-- A STATUS that empties the path queue (R61). -/
theorem StatusRec.emptiesQueue_iff (r : StatusRec) : r.emptiesQueue = true ↔
    r.station = .listening ∨ r.station = .inert ∨ ∃ a, r.part = .axle a ∧ a.direction = .reverse := by
  unfold StatusRec.emptiesQueue
  cases r.part <;> simp [or_assoc]

/-- Settles O24: the stored record, the stamp, the summary, the path queue and the report. -/
theorem statusAccepted : Obligations.StatusAccepted := by
  intro dt locks f n r s arrival hp hruns hf hj
  set u := s.elapse dt
  have sc : u.sc = s.sc := by simp [u]
  have pv : u.pv = s.pv := by simp [u]
  have li : u.li = s.li := by simp [u]
  have pu : u.pu = s.pu := by simp [u]
  have own : u.frameTaken.own = s.own := State.own_congr sc
  set t := reportPeer arrival (acceptStatus n r arrival u.frameTaken) with ht
  refine ⟨t, exec_frameAccepted locks hp hruns hf hj, ?_⟩
  have accepted := acceptStatus_eq n r arrival u.frameTaken
  set stamped := stampMotion u.frameTaken.knownSpeeds.isEmpty r arrival (u.frameTaken.statusStored n r arrival)
  have peers : t.pv.peers = s.pv.peers.set n ⟨some r, arrival, .fresh, some r.signature⟩ := by
    rw [ht, accepted, ← pv]; rfl
  have lastMoving : t.pv.lastMoving = stamped.pv.lastMoving := by rw [ht, accepted]; rfl
  have summary : t.li = { s.li with complete := none, summary :=
      if u.frameTaken.newlyDisagrees n r then insertKind .profileMismatch s.li.summary else s.li.summary } := by
    rw [ht, accepted, ← li]; rfl
  have queue : t.pu = if u.frameTaken.keepsQueue ∧ s.sc.prof.leading = some n ∧ r.emptiesQueue = true then
      { s.pu with queue := [], queueEpoch := none } else s.pu := by
    rw [ht, accepted, ← pu, ← sc]; rfl
  have frame : t = { u with
      sc := t.sc, pv := { u.pv with peers := t.pv.peers, lastMoving := t.pv.lastMoving }, pu := t.pu, li := t.li } := by
    rw [ht, accepted]; rfl
  have control : t.sc = { s.sc with
      heard := if s.sc.station = .listening then true else s.sc.heard
      lastPeer := some arrival
      station := if s.sc.station = .isolated then .active else s.sc.station } := by
    rw [ht, accepted, ← sc]; rfl
  have runs : t.runs = u.runs := by
    have after : t.runs = true := reportPeer_runs (by rw [accepted]; simpa [State.runs, State.frameTaken, sc] using hruns)
    rw [after, State.elapse_runs, hruns]
  clear_value t
  have speeds : (u.frameTaken.statusStored n r arrival).knownSpeeds = t.knownSpeeds := by
    rw [State.statusStored_eq]
    refine (State.knownSpeeds_congr ?_ ?_ ?_ ?_ ?_ ?_).symm
    · rw [control, ← sc]; rfl
    · rw [control, ← sc]; rfl
    · exact runs
    · rw [peers, ← pv]; rfl
    · rw [frame]; rfl
    · rw [frame]; rfl
  have known : u.frameTaken.knownSpeeds = u.knownSpeeds := State.knownSpeeds_congr rfl rfl rfl rfl rfl rfl
  obtain ⟨begins, goes⟩ := stampMotion_cases r arrival (u.frameTaken.statusStored n r arrival) u.frameTaken.knownSpeeds.isEmpty
  rw [speeds, known] at begins goes
  have stored : (u.frameTaken.statusStored n r arrival).pv.lastMoving = s.pv.lastMoving := by
    rw [State.statusStored_eq, ← pv]; rfl
  rw [stored] at goes
  have now : (u.frameTaken.statusStored n r arrival).now = u.now := by rw [State.statusStored_eq]; rfl
  rw [now] at begins
  have acts : (u.frameTaken.keepsQueue = true ∧ s.sc.prof.leading = some n ∧ r.emptiesQueue = true) ↔
      ((s.own.isFollowing = true ∨ s.own.isJoint = true) ∧ s.sc.prof.leading = some n ∧
        (r.station = .listening ∨ r.station = .inert ∨ ∃ a, r.part = .axle a ∧ a.direction = .reverse)) := by
    rw [r.emptiesQueue_iff, State.keepsQueue, own, Bool.or_eq_true]
  refine ⟨?_, fun m hm => ?_, ?_, ?_, fun h => ?_, ?_, fun h1 h2 => ?_, ⟨fun h => ?_, fun h => ?_⟩, ⟨fun h1 h2 => ?_, fun h => ?_⟩, ?_⟩
  · rw [peers]; exact Vector.getElem_set_self _
  · rw [peers]; exact Vector.getElem_set_ne n.isLt m.isLt fun e => hm (Fin.ext e.symm)
  · rw [frame, ← pv]
  · rw [control]
  · rw [control, if_pos h]
  · rw [control]
  · have disagrees : u.frameTaken.newlyDisagrees n r = true := by
      have e : u.frameTaken.newlyDisagrees n r = u.newlyDisagrees n r := rfl
      rw [e, State.newlyDisagrees, sc, pv]
      rw [decide_eq_true h1, decide_eq_true h2]
      rfl
    rw [summary, disagrees]
    simp [mem_insertKind]
  · rw [queue, if_pos (acts.mpr h)]
    exact ⟨rfl, rfl⟩
  · rw [queue, if_neg (mt acts.mp h)]
  · rw [lastMoving]
    exact begins (by rw [h1]; rfl) h2
  · rw [lastMoving]
    refine goes (h.imp (fun h => ?_) id)
    cases hk : u.knownSpeeds with
    | nil => exact absurd hk h
    | cons v l => rfl
  · have pathUnit : t.pu = { s.pu with queue := t.pu.queue, queueEpoch := t.pu.queueEpoch } := by
      rw [queue]; split <;> rfl
    rw [← pathUnit, ← pv]
    refine frame.trans ?_
    rw [summary]

/-! ### An accepted DEMAND (R42, R46, R49, R51) -/

/-- The doors of a station that the lock levels tell apart. -/
theorem withLocks_getElem? {f : Bool → Door → Door} {k : LockLevels} {i : Nat} (hi : i < 2) (l : List Door) :
    (withLocks f k l)[i]? = l[i]?.map (f (if i = 0 then k.first else k.second)) := by
  match l, i, hi with
  | [], i, _ => rfl
  | [d], 0, _ => rfl
  | [d], 1, _ => rfl
  | d :: e :: rest, 0, _ => rfl
  | d :: e :: rest, 1, _ => rfl

theorem withLocks_map {α : Type} {f : Bool → Door → Door} {g : Door → α} (k : LockLevels) (h : ∀ b d, g (f b d) = g d)
    (l : List Door) : (withLocks f k l).map g = l.map g := by
  match l with
  | [] => rfl
  | [d] => simp [withLocks, h]
  | d :: e :: rest =>
    have later : g ∘ f false = g := funext (h false)
    simp [withLocks, h, later]

/-- A door's obstruction items after a clear event (R180). -/
def Door.unlatched (d : Door) : Door := { d with latch := false, count := if d.latch then 0 else d.count }

theorem clearDoor_eq (now : Time) (locked : Bool) (d : Door) : clearDoor now locked d =
    if d.state = .fault then
      if locked then { d.unlatched with
        state := .locked, count := 0, deadline := none, lockedFault := false, heldFault := false,
        lockActuator := false, drive := .off }
      else { d.unlatched with
        state := .locking, deadline := some (later now 500000), lockedFault := false, heldFault := false,
        lockActuator := false, drive := .off }
    else d.unlatched := by
  have e : (if d.latch then { d with latch := false, count := 0 } else d) = d.unlatched := by
    unfold Door.unlatched
    cases h : d.latch
    · simp only [Bool.false_eq_true, if_false]
      rw [← h]
    · rfl
  unfold clearDoor
  simp only [e]
  cases h : d.state <;> simp only [Door.unlatched, h, reduceCtorEq, if_true, if_false]; rfl

theorem clearDoor_number (now : Time) (b : Bool) (d : Door) : (clearDoor now b d).number = d.number := by
  rw [clearDoor_eq]
  (repeat' split) <;> rfl

/-- What a clear-count reading may write. -/
theorem clearCountRule_writes (k : LockLevels) (n : BitVec 8) (s : State) : clearCountRule k n s = { s with
    su := (clearCountRule k n s).su, hu := (clearCountRule k n s).hu, lu := (clearCountRule k n s).lu
    du := (clearCountRule k n s).du
    pv := { s.pv with actedClear := some n, frozen := (clearCountRule k n s).pv.frozen } } := by
  obtain ⟨-, h⟩ | ⟨ha, h⟩ | ⟨c, -, -, h⟩ := clearCountRule_cases k n s
  · rw [h]
  · rw [h, ← ha]
  · rw [h]; rfl

/-- A list that is empty stays so (R49). -/
theorem clearCountRule_frozen {s : State} (k : LockLevels) (n : BitVec 8) (h : s.pv.frozen = []) :
    (clearCountRule k n s).pv.frozen = [] := by
  obtain ⟨-, e⟩ | ⟨-, e⟩ | ⟨c, -, -, e⟩ := clearCountRule_cases k n s
  · rw [e]; exact h
  · rw [e]; exact h
  · rw [e]
    change List.filter _ s.pv.frozen = []
    rw [h]; rfl

/-- The hold-request start after a DEMAND (R46; log entry 9). -/
theorem holdStartAfter_none {b : DemandItem} {start : Option Time} {r : DemandRec} {a : Time} (h : r.hold = .none) :
    holdStartAfter b start r a = none := by
  simp only [holdStartAfter, h]

theorem holdStartAfter_new {b : DemandItem} {start : Option Time} {r : DemandRec} {a : Time} (h : r.hold = .hold)
    (hb : b.freshness ≠ .fresh ∨ b.record.map (·.hold) ≠ some .hold) : holdStartAfter b start r a = some a := by
  unfold holdStartAfter
  rw [h]
  dsimp only
  split
  next x hf hx =>
    rw [if_neg]
    intro hh
    obtain hb | hb := hb
    · exact hb hf
    · exact hb (by rw [hx, Option.map_some, hh])
  · rfl

theorem holdStartAfter_held {b : DemandItem} {start : Option Time} {r : DemandRec} {a : Time} (h : r.hold = .hold)
    (hf : b.freshness = .fresh) (hb : b.record.map (·.hold) = some .hold) : holdStartAfter b start r a = start := by
  obtain ⟨x, hx, hh⟩ := Option.map_eq_some_iff.mp hb
  simp only [holdStartAfter, h, hf, hx, hh, if_true]

/-- The state with the record accepted, before its clear count is read. -/
def State.demandStored (r : DemandRec) (a : Time) (s : State) : State :=
  { s with pv := { s.pv with
      holdStart := holdStartAfter s.pv.demand s.pv.holdStart r a, demand := ⟨some r, a, .fresh⟩, episode := false, frozen := [] } }

/-- Settles O25: the DEMAND item, the hold-request start, and the four latch owners by the clear count. -/
theorem demandAccepted : Obligations.DemandAccepted := by
  intro dt locks f n r s u arrival hp hruns hf hj
  have sc : u.sc = s.sc := by simp [u]
  have pv : u.pv = s.pv := by simp [u]
  have li : u.li = s.li := by simp [u]
  have su : u.su = s.su := by simp [u]
  have hu : u.hu = s.hu := by simp [u]
  have lu : u.lu = s.lu := by simp [u]
  have du : u.du = s.du := by simp [u]
  set b := u.frameTaken.demandStored r arrival with hb
  set c := clearCountRule locks r.clear b with hc
  refine ⟨reportPeer arrival c, exec_frameAccepted locks hp hruns hf hj, ?_⟩
  clear_value u
  have writes := clearCountRule_writes locks r.clear b
  have frozen : c.pv.frozen = [] := clearCountRule_frozen locks r.clear rfl
  rw [← hc, frozen] at writes
  have acted : b.pv.actedClear = s.pv.actedClear := by rw [← pv]; rfl
  have bstart : b.pv.holdStart = holdStartAfter s.pv.demand s.pv.holdStart r arrival := by rw [← pv]; rfl
  have start : c.pv.holdStart = holdStartAfter s.pv.demand s.pv.holdStart r arrival := by rw [writes]; exact bstart
  have cases := clearCountRule_cases locks r.clear b
  rw [acted, ← hc] at cases
  refine ⟨?_, ?_, frozen, ?_, fun h => ?_, fun h hn => ?_, fun h h1 h2 => ?_, fun h => ?_, fun x hx hne => ?_, ?_⟩
  · change c.pv.demand = _
    rw [writes]; rfl
  · change c.pv.episode = _
    rw [writes]; rfl
  · change c.pv.actedClear = _
    rw [writes]
  · exact start.trans (holdStartAfter_none h)
  · exact start.trans (holdStartAfter_new h hn)
  · exact start.trans (holdStartAfter_held h h1 h2)
  · rw [← su, ← hu, ← lu, ← du]
    obtain ⟨-, e⟩ | ⟨-, e⟩ | ⟨x, hx, hne, -⟩ := cases
    · rw [e]; exact ⟨rfl, rfl, rfl, rfl⟩
    · rw [e]; exact ⟨rfl, rfl, rfl, rfl⟩
    · obtain h | h := h
      · rw [h] at hx; cases hx
      · rw [h] at hx; cases hx; exact absurd rfl hne
  · have e : c = clearEvent locks { b with pv := { b.pv with actedClear := some r.clear } } := by
      obtain ⟨h, -⟩ | ⟨h, -⟩ | ⟨-, -, -, e⟩ := cases
      · rw [h] at hx; cases hx
      · rw [h] at hx; cases hx; exact absurd rfl hne
      · exact e
    have owners := clearEvent_units locks { b with pv := { b.pv with actedClear := some r.clear } }
    rw [← e] at owners
    obtain ⟨esu, ehu, elu, edu⟩ := owners
    have numbers : c.du.doors.map (·.number) = s.du.doors.map (·.number) := by
      rw [edu, ← du]
      exact withLocks_map locks (clearDoor_number u.now) u.du.doors
    refine ⟨by rw [← su]; exact esu, by rw [← lu]; exact elu, fun h => ?_, fun h => ?_, ?_, numbers, fun k d hk hd => ?_⟩
    · rw [← hu] at h ⊢
      exact ehu.trans (if_neg (by change ¬u.hu.latch = true; simp [h]))
    · rw [← hu] at h ⊢
      exact ehu.trans (if_pos h)
    · change c.du = { s.du with doors := c.du.doors }
      rw [edu, ← du]
      rfl
    · have found : c.du.doors[k]? = some (clearDoor u.now (if k = 0 then locks.first else locks.second) d) := by
        rw [edu]
        change (withLocks (clearDoor u.now) locks u.du.doors)[k]? = _
        rw [withLocks_getElem? hk, du, hd]
        rfl
      refine ⟨_, found, fun h1 h2 => ?_, fun h1 h2 => ?_, fun h => ?_⟩
      · rw [clearDoor_eq, if_pos h1, if_pos h2]
        rfl
      · rw [clearDoor_eq, if_pos h1, if_neg (by simp [h2])]
        rfl
      · rw [clearDoor_eq, if_neg h]
        rfl
  · change reportPeer arrival c = { u with
      sc := (reportPeer arrival c).sc, su := c.su, hu := c.hu, lu := c.lu, du := c.du, li := _,
      pv := { c.pv with peers := s.pv.peers, lastMoving := s.pv.lastMoving } }
    rw [← pv, ← li]
    conv_lhs => rw [writes]
    rw [writes]
    rfl

/-! ### An accepted PATH (R60, R68) -/

/-- A point taken re-arms the lag check of a following axle (R68). -/
theorem lagRearm_eq (s : State) : lagRearm s = { s with pu := { s.pu with
    lagRef := if s.own.isFollowing then some s.pc.ownOdo else s.pu.lagRef
    lagStands := if s.own.isFollowing then false else s.pu.lagStands } } := by
  unfold lagRearm
  split <;> rfl

section
variable (p : PathPoint) (s : State)

theorem takeOnly_eq : takeOnly p s = { s with pu := { s.pu with
    queue := [p.queued false], queueEpoch := some p.epoch
    lagRef := if s.own.isFollowing then some s.pc.ownOdo else s.pu.lagRef
    lagStands := if s.own.isFollowing then false else s.pu.lagStands } } := by
  rw [takeOnly, lagRearm_eq]
  rfl

theorem takeNewest_eq (mark : Bool) : takeNewest mark p s = { s with
    pu := { s.pu with
      queue := (if s.sc.prof.queueCapacity ≤ s.pu.queue.length then s.pu.queue.drop 1 else s.pu.queue) ++ [p.queued mark]
      lagRef := if s.own.isFollowing then some s.pc.ownOdo else s.pu.lagRef
      lagStands := if s.own.isFollowing then false else s.pu.lagStands }
    li := { s.li with summary :=
      if s.sc.prof.queueCapacity ≤ s.pu.queue.length then insertKind .pathOverrun s.li.summary else s.li.summary } } := by
  simp only [takeNewest, lagRearm_eq, State.raiseIf_eq, decide_eq_true_eq]
  rfl

end

section
variable {p : PathPoint} {s : State}

/-- The first point, or one of another epoch, becomes the only one (R60). -/
theorem pathIntake_only (h : s.pu.queue = [] ∨ s.pu.queueEpoch ≠ some p.epoch) : pathIntake p s = takeOnly p s := by
  unfold pathIntake newestPoint
  split
  · rfl
  next x hx =>
    obtain h | h := h
    · rw [h] at hx; cases hx
    · rw [if_pos h]

variable {x : QueuePoint} (hx : s.pu.queue.getLast? = some x) (he : s.pu.queueEpoch = some p.epoch)
include hx he

/-- A point at or behind the newest is dropped (R60). -/
theorem pathIntake_stale (h : (p.distance - x.distance).toInt ≤ 0) : pathIntake p s = s := by
  simp only [pathIntake, newestPoint, hx, he, ne_eq, not_true_eq_false, if_false]
  exact if_pos h

/-- Any other becomes the newest, marked after a break of more than four path steps (R60). -/
theorem pathIntake_newest (h : 0 < (p.distance - x.distance).toInt) : pathIntake p s =
    takeNewest (decide ((4 * s.sc.prof.pathStep : Nat) < (p.distance - x.distance).toInt)) p s := by
  simp only [pathIntake, newestPoint, hx, he, ne_eq, not_true_eq_false, if_false]
  exact if_neg (not_le.mpr h)

end

/-- What an intake may write. -/
theorem pathIntake_writes (p : PathPoint) (s : State) : pathIntake p s = { s with
    pu := { s.pu with queue := (pathIntake p s).pu.queue, queueEpoch := (pathIntake p s).pu.queueEpoch,
                      lagRef := (pathIntake p s).pu.lagRef, lagStands := (pathIntake p s).pu.lagStands }
    li := { s.li with summary := (pathIntake p s).li.summary } } := by
  unfold pathIntake
  split
  · rw [takeOnly_eq]
  · (repeat' split)
    · rw [takeOnly_eq]
    · rfl
    · rw [takeNewest_eq]

theorem StationRec.not_keeps {r : StationRec} (h : r.isLeading = true ∨ r = .cab) :
    r.isFollowing = false ∧ r.isJoint = false := by
  cases r with
  | axle k a => simp_all [StationRec.isLeading, StationRec.isFollowing, StationRec.isJoint]
  | cab | absent => exact ⟨rfl, rfl⟩
  | joint => simp [StationRec.isLeading] at h

theorem StationRec.following_not_joint {r : StationRec} (h : r.isJoint = true) : r.isFollowing = false := by
  cases r <;> simp_all [StationRec.isFollowing, StationRec.isJoint]

/-- Settles O26: the intake's cases on the queue, and the stations that keep none. -/
theorem pathIntakeCases : Obligations.PathIntakeCases := by
  intro dt locks f n p s arrival only full rearms reported hp hruns hf hj
  set u := s.elapse dt with hu
  have own : u.frameTaken.own = s.own := State.own_congr (by simp [u, State.frameTaken])
  have sc : u.frameTaken.sc = s.sc := by simp [u, State.frameTaken]
  have pc : u.frameTaken.pc = s.pc := by simp [u, State.frameTaken]
  have li : u.frameTaken.li = { s.li with complete := none } := by simp [u, State.frameTaken]
  have pu : u.frameTaken.pu = s.pu := by simp [u, State.frameTaken]
  have took : reported = reportPeer arrival u.frameTaken := by
    rw [reportPeer, sc]
    change _ = { u with li := u.frameTaken.li, sc := _ }
    rw [li]
  have ran := exec_frameAccepted (dt := dt) locks hp hruns hf hj
  refine ⟨fun h => ?_, fun h => ?_⟩
  · obtain ⟨hfol, hjoint⟩ := StationRec.not_keeps h
    have drops : acceptPath p u.frameTaken = u.frameTaken :=
      if_neg (by rw [State.keepsQueue, own, hfol, hjoint]; simp)
    rw [ran, took]
    change Host.Outcome.next (reportPeer arrival (acceptPath p u.frameTaken)) = _
    rw [drops]
  · have takes : acceptPath p u.frameTaken = pathIntake p u.frameTaken :=
      if_pos (by rw [State.keepsQueue, own, Bool.or_eq_true]; exact h)
    refine ⟨reportPeer arrival (acceptPath p u.frameTaken), ran, ?_⟩
    rw [takes]
    clear_value u
    set w := u.frameTaken with hw
    have summary : w.li.summary = s.li.summary := by rw [li]
    have rearmed (t : State) (h1 : t.pu.lagRef = if w.own.isFollowing then some w.pc.ownOdo else w.pu.lagRef)
        (h2 : t.pu.lagStands = if w.own.isFollowing then false else w.pu.lagStands) : rearms t := by
      rw [own, pc, pu] at h1
      rw [own, pu] at h2
      refine ⟨fun hf => ?_, fun hj => ?_⟩
      · rw [h1, h2, if_pos hf, if_pos hf]
        exact ⟨rfl, rfl⟩
      · have hf := StationRec.following_not_joint hj
        rw [h1, h2, hf]
        exact ⟨rfl, rfl⟩
    refine ⟨fun hq => ?_, fun x hx he => ⟨fun hle => ?_, fun hlt => ?_⟩, ?_⟩
    · rw [pathIntake_only (pu.symm ▸ hq), takeOnly_eq]
      exact ⟨rfl, rfl, rearmed _ rfl rfl, summary⟩
    · rw [pathIntake_stale (pu.symm ▸ hx) (pu.symm ▸ he) hle]
      exact ⟨pu, summary⟩
    · rw [pathIntake_newest (pu.symm ▸ hx) (pu.symm ▸ he) hlt, takeNewest_eq]
      refine ⟨?_, ?_, rearmed _ rfl rfl, ?_⟩
      · rw [sc, pu]; rfl
      · rw [pu]; rfl
      · rw [sc, pu, summary]; rfl
    · rw [took, ← pu]
      conv_lhs => rw [pathIntake_writes]
      rfl

end Sys2Proof.Machine
end

section
/-! PROOF. The checks of a complete frame (R27) and what becomes of it (R38, R192). -/

namespace Sys2Proof.Machine

/-! ### The checks in their order (R27) -/

theorem frameKindOf_none {c : Nat} (h : c = 0 ∨ 4 < c) : frameKindOf c = none := by
  obtain rfl | h := h
  · rfl
  · obtain ⟨k, rfl⟩ := Nat.exists_eq_add_of_le' h
    rfl

theorem frameKindOf_kindCode (k : FrameKind) : frameKindOf (kindCode k) = some k := by cases k <;> rfl

theorem StationRec.isPresent_iff (r : StationRec) : r.isPresent = true ↔ r ≠ .absent := by
  cases r <;> simp [StationRec.isPresent]

/-- A kind allowed from a sender: PATH from the leading axle, DEMAND from station 0. -/
theorem kindAllowed_iff (kind : FrameKind) (n : Fin 8) (r : StationRec) :
    kindAllowed kind n r = true ↔ (kind = .path → r.isLeading = true) ∧ (kind = .demand → n = 0) := by
  cases kind <;> simp [kindAllowed]

section
variable {p : Profile} {own : Fin 8} {chars : List Byte}

/-- The characters that the CRC covers. -/
def coveredOf (chars : List Byte) : List Byte := chars.take (3 + byteAt chars 2)

theorem judge_crc (h : wordBytes (crc16 (coveredOf chars)) ≠ chars.drop (3 + byteAt chars 2)) :
    judge p own chars = .discarded := if_pos h

section
variable (h : wordBytes (crc16 (coveredOf chars)) = chars.drop (3 + byteAt chars 2))
include h

theorem judge_kind : judge p own chars =
    match frameKindOf (byteAt chars 0) with
    | none => .malformed
    | some kind =>
      if lengthOk kind ((coveredOf chars).drop 3) then
        judgeSender p own kind (byteAt chars 1) ((coveredOf chars).drop 3)
      else .discarded := if_neg (not_not.mpr h)

theorem judge_noKind (hk : byteAt chars 0 = 0 ∨ 4 < byteAt chars 0) : judge p own chars = .malformed := by
  rw [judge_kind h, frameKindOf_none hk]

variable {kind : FrameKind} (hk : byteAt chars 0 = kindCode kind)
include hk

theorem judge_length (hl : lengthOk kind ((coveredOf chars).drop 3) = false) : judge p own chars = .discarded := by
  simp [judge_kind h, hk, frameKindOf_kindCode, hl]

theorem judge_sender (hl : lengthOk kind ((coveredOf chars).drop 3) = true) :
    judge p own chars = judgeSender p own kind (byteAt chars 1) ((coveredOf chars).drop 3) := by
  simp [judge_kind h, hk, frameKindOf_kindCode, hl]

end

variable {kind : FrameKind} {body : List Byte}

theorem judgeSender_unknown {sender : Nat} (h : 8 ≤ sender) : judgeSender p own kind sender body = .malformed :=
  dif_neg (not_lt.mpr h)

theorem judgeSender_known (n : Fin 8) : judgeSender p own kind n.val body =
    if n = own then .duplicate
    else if (p.station n).isPresent = false then .unlisted
    else if kindAllowed kind n (p.station n) = false then .malformed
    else
      match frameOf kind (p.station n) body with
      | some f => .accepted n f
      | none => .malformed := dif_pos n.isLt

section
variable {n : Fin 8} (hn : n ≠ own)
include hn

theorem judgeSender_unlisted (h : p.station n = .absent) : judgeSender p own kind n.val body = .unlisted := by
  rw [judgeSender_known, if_neg hn, if_pos (by rw [h]; rfl)]

variable (hp : p.station n ≠ .absent)
include hp

theorem judgeSender_forbidden (h : kindAllowed kind n (p.station n) = false) :
    judgeSender p own kind n.val body = .malformed := by
  rw [judgeSender_known, if_neg hn, if_neg (by simpa [StationRec.isPresent_iff] using hp), if_pos h]

theorem judgeSender_read (h : kindAllowed kind n (p.station n) = true) : judgeSender p own kind n.val body =
    match frameOf kind (p.station n) body with
    | some f => .accepted n f
    | none => .malformed := by
  rw [judgeSender_known, if_neg hn, if_neg (by simpa [StationRec.isPresent_iff] using hp), if_neg (by simp [h])]

end

end

/-! ### A duplicate found in LISTENING (R38) -/

/-- The line interface after the entry to INERT: its requests (R38, R191). -/
theorem enterInert_line (k : LockLevels) (s : State) : (enterInert k s).li = { s.li with pending := { s.li.pending with
    status := true
    notice := s.li.pending.notice || !s.li.summary.isEmpty } } := by
  unfold enterInert State.requestFinalNotice
  cases he : s.li.summary.isEmpty <;> cases hn : s.li.pending.notice <;>
    simp [inertUnits, State.request, TransmitSet.set, he, hn]

/-- The entry to INERT requests a STATUS, and a final NOTICE if there is an event to report. -/
theorem enterInert_requests {s : State} (k : LockLevels) (h : s.li.summary ≠ []) :
    (enterInert k s).li.pending.status = true ∧ (enterInert k s).li.pending.notice = true := by
  have events : (!s.li.summary.isEmpty) = true := by simpa using h
  rw [enterInert_line, events]
  exact ⟨rfl, Bool.or_true _⟩

/-- Settles O23: the checks in their order, then the fate of each verdict. -/
theorem frameFates : Obligations.FrameFates := by
  refine ⟨?checks, ?fates⟩
  case checks =>
    intro p own chars covered body
    refine ⟨judge_crc, fun h => ⟨judge_noKind h, fun kind hk => ⟨judge_length h hk, fun hl => ?_⟩⟩⟩
    rw [judge_sender h hk hl]
    refine ⟨judgeSender_unknown, fun n hn => ?_⟩
    rw [hn]
    refine ⟨fun h => ?_, judgeSender_unlisted, fun hne hp => ?_⟩
    · rw [judgeSender_known, if_pos h]
    · intro allowed
      have ok : kindAllowed kind n (p.station n) = true ↔ allowed := kindAllowed_iff ..
      refine ⟨fun ha => judgeSender_forbidden hne hp (Bool.eq_false_iff.mpr (mt ok.mp ha)), fun ha hf => ?_, fun f ha hf => ?_⟩
      · rw [judgeSender_read hne hp (ok.mpr ha)]
        change (match frameOf kind (p.station n) body with | some f => Verdict.accepted n f | none => .malformed) = _
        rw [hf]
      · rw [judgeSender_read hne hp (ok.mpr ha)]
        change (match frameOf kind (p.station n) body with | some f => Verdict.accepted n f | none => .malformed) = _
        rw [hf]
  case fates =>
    intro dt locks f s u taken hp hf
    have sc : u.sc = s.sc := by simp [u]
    have own : u.own = s.own := State.elapse_own ..
    have judged (hr : s.runs = true) : exec (.frameReceived dt locks) s =
        .next (applyVerdict locks (f.detected - BitVec.ofNat 32 s.sc.prof.latency) (judge s.sc.prof s.sc.strap f.chars) taken) := by
      rw [exec_frameReceived locks hp (.inl hr), frameReceived_judged locks (by simpa [u] using hr) (by simpa [u] using hf)]
      change Host.Outcome.next (applyVerdict locks (f.detected - BitVec.ofNat 32 u.sc.prof.latency) (judge u.sc.prof u.sc.strap f.chars) taken) = _
      rw [sc]
    refine ⟨fun hi => ?_, fun hr hj => ?_, fun hr hj => ?_, fun hr hj => ?_, fun hr hj => ⟨fun hl => ?_, fun hl => ?_⟩,
      fun n kinds hr hj => ?_⟩
    · have runs : u.runs = false := by simp [u, State.runs, hi, StationState.runs]
      have complete : u.li.complete = some f := by simpa [u] using hf
      rw [exec_frameReceived locks hp (.inr hi)]
      change Host.Outcome.next (frameReceived locks u) = _
      simp only [frameReceived, complete, runs, Bool.false_eq_true, if_false]
      rfl
    · rw [judged hr, hj]; rfl
    · rw [judged hr, hj]; rfl
    · rw [judged hr, hj]; rfl
    · rw [judged hr, hj]
      exact congrArg _ (if_neg (by change ¬u.sc.station = .listening; rw [sc]; exact hl))
    · have inert : applyVerdict locks (f.detected - BitVec.ofNat 32 s.sc.prof.latency) .duplicate taken =
          enterInert locks taken.duplicateFound := if_pos (by change u.sc.station = .listening; rw [sc]; exact hl)
      refine ⟨enterInert locks taken.duplicateFound, by rw [judged hr, hj, inert], ?_⟩
      have raised : .duplicateStation ∈ taken.duplicateFound.li.summary := by
        simp [State.duplicateFound, mem_insertKind]
      obtain ⟨status, notice⟩ := enterInert_requests locks (List.ne_nil_of_mem raised)
      obtain ⟨control, -, -, -, summary, -, -, -, -, hold, -⟩ := enterInert_units locks taken.duplicateFound
      refine ⟨by rw [control], by rw [control]; rfl, by rw [summary]; exact raised, status, notice, enterInert_valve .., fun ha => ?_⟩
      have axle : taken.duplicateFound.own.isAxle = true := by
        rw [← own] at ha
        exact ha
      rw [hold, axle]
      rfl
    · intro arrival
      have cu : u.cu = s.cu := by simp [u]
      refine ⟨reportPeer arrival (noteNotice kinds arrival taken), by rw [judged hr, hj]; rfl, ?_, rfl, ?_, ?_, fun hc => ?_,
        fun hc g => ?_⟩
      · rw [noteNotice_eq]; rfl
      · rw [noteNotice_eq, ← sc]; rfl
      · change (noteNotice kinds arrival taken).cu = { s.cu with telltales := (noteNotice kinds arrival taken).cu.telltales }
        rw [noteNotice_eq, ← cu]
      · rw [noteNotice_other kinds arrival (by rw [← own] at hc; exact hc)]
        exact cu
      · have := noteNotice_row (s := taken) kinds arrival (own.trans hc) g
        rw [← cu]
        exact this

end Sys2Proof.Machine
end

section
/-! PROOF. Pulse capture and the converter scan (R5 to R21): the speeds and the condition table of the channels. -/

namespace Sys2Proof.Machine

/-! ### A wheel at a speed update (R9) -/

section
variable {w : Wheel} {now : Time} {pitch : Nat}

theorem Wheel.update_empty (h : w.queue = []) : w.update now pitch = ⟨[], 0⟩ := by
  simp [Wheel.update, h]

theorem Wheel.timedOut_iff : w.timedOut now = true ↔
    ∃ newest, w.queue.getLast? = some newest ∧ 400000 < (now - newest.time).toNat := by
  unfold Wheel.timedOut
  cases w.queue.getLast? with
  | none => simp
  | some e =>
    simp only [decide_eq_true_eq, Option.some.injEq, exists_eq_left']
    rfl

theorem Wheel.update_timedOut (h : w.timedOut now = true) : w.update now pitch = ⟨[], 0⟩ := by
  unfold Wheel.update
  split
  · rw [if_pos h]
  · rfl

section
variable {newest oldest : Snapshot} (hn : w.queue.getLast? = some newest) (ho : w.queue.head? = some oldest)
  (hold : (now - newest.time).toNat ≤ 400000)
include hn ho hold

theorem Wheel.update_kept : w.update now pitch =
    if 2 ≤ w.queue.length ∧ 0 < (newest.time - oldest.time).toNat then
      ⟨[newest], min ((w.queue.length - 1) * pitch * 1000000 / (newest.time - oldest.time).toNat) 65535⟩
    else w := by
  have young : w.timedOut now = false := by
    rw [Bool.eq_false_iff, Ne, Wheel.timedOut_iff]
    rintro ⟨e, he, hlt⟩
    rw [hn] at he
    cases he
    omega
  simp only [Wheel.update, hn, ho, young, Bool.false_eq_true, if_false]
  rfl

theorem Wheel.update_spans (h2 : 2 ≤ w.queue.length) (hs : 0 < (newest.time - oldest.time).toNat) :
    w.update now pitch =
      ⟨[newest], min ((w.queue.length - 1) * pitch * 1000000 / (newest.time - oldest.time).toNat) 65535⟩ := by
  rw [Wheel.update_kept hn ho hold, if_pos ⟨h2, hs⟩]

/-- One edge, or edges of one instant, form no new speed. -/
theorem Wheel.update_rests (h : w.queue.length = 1 ∨ (newest.time - oldest.time).toNat = 0) : w.update now pitch = w := by
  rw [Wheel.update_kept hn ho hold, if_neg (by omega)]

end

end

/-! ### The speed update (R9, R11, R45) -/

theorem speedUpdate_wheel (s : State) (w : Side) :
    (speedUpdate s).pc.wheel w = (s.pc.wheel w).update s.now s.pitch := by
  cases w <;> rfl

theorem State.speedDue_iff (s : State) :
    s.speedDue = true ↔ s.own.isAxle = true ∧ s.runs = true ∧ passed s.sched.speed s.now = true := by
  simp [State.speedDue, State.capturesPulses, and_assoc]

/-- Settles O15: the cases of R9 for either wheel, and the rest of the update. -/
theorem speedUpdateForms : Obligations.SpeedUpdateForms := by
  intro dt r k s u hp hruns hown hpass
  have own : u.own = .axle k r := (State.elapse_own ..).trans hown
  have pc : u.pc = s.pc := by simp [u]
  have sched : u.sched = s.sched := by simp [u]
  have pv : u.pv = s.pv := by simp [u]
  have due : u.speedDue = true :=
    (u.speedDue_iff).mpr ⟨by rw [own]; rfl, by simpa [u] using hruns, by rw [sched]; exact hpass⟩
  have pitch : u.pitch = r.pitch := by simp [State.pitch, own, StationRec.axle?]
  refine ⟨speedUpdate u, runWhen_ready hp due, fun w => ?_, rfl, ?_, ?_, ?_, ?_, ?_, ?_⟩
  · rw [speedUpdate_wheel, pc, pitch]
    refine ⟨Wheel.update_empty, fun newest hn hold => Wheel.update_timedOut (Wheel.timedOut_iff.mpr ⟨newest, hn, hold⟩),
      fun newest oldest hn ho hold => ⟨Wheel.update_spans hn ho hold, fun _ h => Wheel.update_rests hn ho hold (.inr h),
        fun h => Wheel.update_rests hn ho hold (.inl h)⟩⟩
  · rw [← pc]; rfl
  · rw [← pc]; rfl
  · rw [← pc]; rfl
  · rw [← pv]; rfl
  · rw [← sched]; rfl
  · simp [u]

/-- Settles O16: the command's condition is that of the speed update and the timeout of its wheel. -/
theorem zeroSpeedTimesOut : Obligations.ZeroSpeedTimesOut := by
  intro dt w r k newest s u hp hruns hown hpass hn hold
  have own : u.own = .axle k r := (State.elapse_own ..).trans hown
  have pc : u.pc = s.pc := by simp [u]
  have sched : u.sched = s.sched := by simp [u]
  have due : u.speedDue = true :=
    (u.speedDue_iff).mpr ⟨by rw [own]; rfl, by simpa [u] using hruns, by rw [sched]; exact hpass⟩
  have out : (u.pc.wheel w).timedOut u.now = true := Wheel.timedOut_iff.mpr ⟨newest, by rw [pc]; exact hn, hold⟩
  refine ⟨speedUpdate u, runWhen_ready hp ?_, runWhen_ready hp due, ?_, rfl⟩
  · rw [State.zeroSpeedDue, Bool.and_eq_true]
    exact ⟨due, out⟩
  · rw [speedUpdate_wheel, Wheel.update_timedOut out]

/-! ### The condition table (R18) -/

theorem plausible_iff (code : BitVec 10) : plausible code = true ↔ 16 ≤ code.toNat ∧ code.toNat ≤ 1007 := by
  simp [plausible]

section
variable {c : Channel} {code : BitVec 10} {new : Int}

theorem Channel.complete_good (hc : c.condition = .good) : c.complete code new =
    if plausible code then ⟨code, some new, .good, 0, 0⟩ else ⟨code, c.value, .holding, 1, 0⟩ := by
  cases h : plausible code <;> simp [Channel.complete, hc, h]

theorem Channel.complete_holding (hc : c.condition = .holding) : c.complete code new =
    if plausible code then
      if c.goodCount ≤ 3 then ⟨code, c.value, .holding, c.holdCount, c.goodCount + 1⟩ else ⟨code, some new, .good, 0, 0⟩
    else if c.holdCount ≤ 8 then ⟨code, c.value, .holding, c.holdCount + 1, 0⟩ else ⟨code, none, .failed, 10, 0⟩ := by
  cases h : plausible code <;> simp [Channel.complete, hc, h]

theorem Channel.complete_failed (hc : c.condition = .failed) : c.complete code new =
    if plausible code then
      if c.goodCount ≤ 3 then ⟨code, none, .failed, 10, c.goodCount + 1⟩ else ⟨code, some new, .good, 0, 0⟩
    else ⟨code, none, .failed, 10, 0⟩ := by
  cases h : plausible code <;> simp [Channel.complete, hc, h]

end

/-! ### The completion (R15 to R20) -/

/-- The channel record as the completion of its conversion leaves it. -/
def State.completedChannel (s : State) (i : Fin 8) (code : BitVec 10) : Channel :=
  (s.channel i).complete code (corrected (s.sc.prof.calibration s.own i.val) (channelRange s.own i.val) code)

/-- The summary after a completion, by the conditions before and after it (R18). -/
def conditionEvents (before after : Condition) (l : List EventKind) : List EventKind :=
  let held := if before = .good ∧ after = .holding then insertKind .channelHold l else l
  if before = .holding ∧ after = .failed then insertKind .channelFail held else held

/-- A yaw completion writes the path unit alone. -/
theorem yawCompletion_eq (c : Channel) (s : State) : yawCompletion c s = { s with pu := (yawCompletion c s).pu } := by
  unfold yawCompletion
  (repeat' split) <;> rfl

/-- What a completion leaves beside the path unit. -/
theorem completeConversion_eq (i : Fin 8) (code : BitVec 10) (s : State) : completeConversion i code s = { s with
    cs := { channels := s.cs.channels.set i (s.completedChannel i code)
            conv := (nextChannel i s.own.channelCount).map Conversion.select }
    pu := (completeConversion i code s).pu
    li := { s.li with
      summary := conditionEvents (s.channel i).condition (s.completedChannel i code).condition s.li.summary } } := by
  unfold completeConversion
  simp only [State.raiseIf_eq, Bool.and_eq_true, decide_eq_true_eq]
  split
  · conv_lhs => rw [yawCompletion_eq]
    rfl
  · rfl

/-- Another channel's completion, or a completion elsewhere, leaves the path unit. -/
theorem completeConversion_pu {i : Fin 8} {code : BitVec 10} {s : State} (h : s.own.isLeading = false ∨ i ≠ 7) :
    (completeConversion i code s).pu = s.pu := by
  unfold completeConversion
  dsimp only
  rw [if_neg]
  · simp
  · rintro ⟨hl, hi⟩
    obtain h | h := h
    · rw [h] at hl; cases hl
    · exact h hi

theorem firstConversion_of_role {r : StationRec} (h : r ≠ .absent) : firstConversion r = some ⟨0, 512⟩ := by
  refine if_neg ?_
  cases r with
  | absent => exact absurd rfl h
  | axle k a => simp only [StationRec.channelCount]; split <;> simp
  | cab | joint => simp [StationRec.channelCount]

/-- Settles O17: the scan's start, the settled trial, the frame of a completion, and the table row by row. -/
theorem converterScan : Obligations.ConverterScan := by
  refine ⟨?start, ?complete⟩
  case start =>
    intro dt s u hp hruns hown hpass
    have sched : u.sched = s.sched := by simp [u]
    have runs : u.runs = true := by simpa [u] using hruns
    have due : u.scanDue = true := by rw [State.scanDue, runs, sched, hpass]; rfl
    refine (runWhen_ready hp due).trans ?_
    change Host.Outcome.next (scanStart u) = _
    rw [scanStart, firstConversion_of_role (by rw [State.elapse_own]; exact hown)]
    rfl
  case complete =>
    intro dt code i s c ok new hp hruns hconv
    set u := s.elapse dt
    have cs : u.cs = s.cs := by simp [u]
    have li : u.li = s.li := by simp [u]
    have pu : u.pu = s.pu := by simp [u]
    have sc : u.sc = s.sc := by simp [u]
    have own : u.own = s.own := State.elapse_own ..
    have channel : u.channel i = c := by simp [u, c, State.channel]
    have ready : u.converting = true := by
      have runs : u.runs = true := by simpa [u] using hruns
      rw [State.converting, runs, cs, hconv]; rfl
    have effect : conversionComplete code u = completeConversion i code u := by
      have settled : (⟨i, 512⟩ : Conversion).code code = code := Conversion.code_select i code
      simp only [conversionComplete, cs, hconv, settled]
    refine ⟨completeConversion i code u, (runWhen_ready hp ready).trans (congrArg _ effect), ?_⟩
    clear_value u
    have complete : u.completedChannel i code = c.complete code new := by
      rw [State.completedChannel, channel, sc, own]
    have eq := completeConversion_eq i code u
    rw [complete, channel] at eq
    set t := completeConversion i code u with ht
    have channels : t.cs.channels = s.cs.channels.set i (c.complete code new) := by rw [eq, ← cs]
    have self : t.cs.channels[i] = c.complete code new := by rw [channels]; exact Vector.getElem_set_self _
    have line : t.li = { s.li with
        summary := conditionEvents c.condition (c.complete code new).condition s.li.summary } := by rw [eq, ← li]
    refine ⟨fun j hj => ?_, ?_, ?_, fun h => ?_, ?_⟩
    · rw [channels]; exact Vector.getElem_set_ne i.isLt j.isLt fun e => hj (Fin.ext e.symm)
    · rw [eq, own]; rfl
    · rw [← li]
      conv_lhs => rw [eq]
      rw [eq]
    · exact (completeConversion_pu (by rw [own]; exact h)).trans pu
    · rw [self, line]
      have hok : plausible code = true ↔ ok := plausible_iff code
      refine ⟨fun hc h => ?_, fun hc h => ?_, fun hc h hn => ?_, fun hc h hn => ?_, fun hc h hn => ?_, fun hc h hn => ?_,
        fun hc h => ?_, fun hc h hn => ?_, fun hc h hn => ?_⟩
      · rw [Channel.complete_good hc, if_pos (hok.mpr h), hc]
        exact ⟨rfl, rfl⟩
      · rw [Channel.complete_good hc, if_neg (mt hok.mp h), hc]
        exact ⟨rfl, rfl⟩
      · rw [Channel.complete_holding hc, if_neg (mt hok.mp h), if_pos hn, hc]
        exact ⟨rfl, rfl⟩
      · rw [Channel.complete_holding hc, if_neg (mt hok.mp h), if_neg (by omega), hc]
        exact ⟨rfl, rfl⟩
      · rw [Channel.complete_holding hc, if_pos (hok.mpr h), if_pos hn, hc]
        exact ⟨rfl, rfl⟩
      · rw [Channel.complete_holding hc, if_pos (hok.mpr h), if_neg (by omega), hc]
        exact ⟨rfl, rfl⟩
      · rw [Channel.complete_failed hc, if_neg (mt hok.mp h), hc]
        exact ⟨rfl, rfl⟩
      · rw [Channel.complete_failed hc, if_pos (hok.mpr h), if_pos hn, hc]
        exact ⟨rfl, rfl⟩
      · rw [Channel.complete_failed hc, if_pos (hok.mpr h), if_neg (by omega), hc]
        exact ⟨rfl, rfl⟩

end Sys2Proof.Machine
end

section
/-! PROOF. An edge of a wheel (R5 to R13) and the path laid at the leading axle (R52 to R58, R68). -/

namespace Sys2Proof.Machine

/-! ### The edge recorded (R7) -/

theorem recordEdge_eq (w : Side) (d : Direction) (s : State) : recordEdge w d s = { s with
    pc := s.pc.setWheel w ((s.pc.wheel w).append ⟨s.now, d⟩)
    li := { s.li with summary :=
      if 8 ≤ (s.pc.wheel w).queue.length then insertKind .snapshotOverrun s.li.summary else s.li.summary } } := by
  rw [recordEdge, State.raiseIf_eq]
  simp only [decide_eq_true_eq]
  rfl

theorem PulseCapture.setWheel_wheel (p : PulseCapture) (x y : Side) (w : Wheel) :
    (p.setWheel x w).wheel y = if y = x then w else p.wheel y := by
  cases x <;> cases y <;> rfl

/-- A change of the direction and the odometers leaves the wheels. -/
theorem PulseCapture.wheel_congr {p q : PulseCapture} (hl : q.left = p.left) (hr : q.right = p.right) (w : Side) :
    q.wheel w = p.wheel w := by
  cases w
  · exact hl
  · exact hr

/-! ### The path odometer reaches the path unit (R56, R57) -/

/-- The path step is crossed while LAYING. -/
def State.crosses (s : State) : Prop := s.pu.laying = .laying ∧ 0 ≤ (s.pc.pathOdo - s.pu.nextStep).toInt

/-- The state with the next step set one path step on. -/
def State.stepped (s : State) : State := { s with pu := { s.pu with nextStep := s.pu.nextStep + s.pathStep } }

section
variable {s : State}

theorem pathOdometerChanged_rests (h : ¬s.crosses) : pathOdometerChanged s = s := if_neg h

theorem pathOdometerChanged_lays {d1 : Int} (h : s.crosses) (hd : (s.channel 6).reading = some d1) :
    pathOdometerChanged s = layPoint d1 s.stepped := by
  have channel : (s.stepped.channel 6).reading = some d1 := hd
  refine (if_pos h).trans ?_
  change (match (s.stepped.channel 6).reading with | some d1 => layPoint d1 s.stepped | none => s.stepped) = _
  rw [channel]

theorem pathOdometerChanged_unread (h : s.crosses) (hd : (s.channel 6).reading = none) :
    pathOdometerChanged s = s.stepped := by
  have channel : (s.stepped.channel 6).reading = none := hd
  refine (if_pos h).trans ?_
  change (match (s.stepped.channel 6).reading with | some d1 => layPoint d1 s.stepped | none => s.stepped) = _
  rw [channel]

end

/-- What a change of the path odometer may write. -/
theorem pathOdometerChanged_writes (s : State) : pathOdometerChanged s = { s with
    pu := { s.pu with nextStep := (pathOdometerChanged s).pu.nextStep, newest := (pathOdometerChanged s).pu.newest }
    su := { s.su with command := (pathOdometerChanged s).su.command }
    li := { s.li with pending := { s.li.pending with path := (pathOdometerChanged s).li.pending.path } } } := by
  by_cases h : s.crosses
  · cases hd : (s.channel 6).reading with
    | some d1 => rw [pathOdometerChanged_lays h hd]; rfl
    | none => rw [pathOdometerChanged_unread h hd]; rfl
  · rw [pathOdometerChanged_rests h]

/-! ### An edge at the leading axle (R8, R12, R55, R58) -/

/-- The state whose path odometer has taken an edge, before the path unit sees it. -/
def State.edgeTaken (d : Direction) (s : State) : State :=
  { s with pc := { s.pc with direction := d, pathOdo := s.pathOdoAfter d } }

section
variable {s : State}

theorem State.pathOdoAfter_on (h : s.pc.direction = .forward) :
    s.pathOdoAfter .forward = s.pc.pathOdo + s.halfPitch := by
  simp only [State.pathOdoAfter, h]

theorem leadingEdge_reverse : leadingEdge .reverse s = { s.edgeTaken .reverse with
    pu := { s.pu with laying := if s.pu.laying = .laying then .reversing else s.pu.laying } } := by
  simp only [leadingEdge, pathReverse]
  split
  · rfl
  · rfl

theorem leadingEdge_on (h : s.pc.direction = .forward) :
    leadingEdge .forward s = pathOdometerChanged (s.edgeTaken .forward) := by
  simp only [leadingEdge, h, State.edgeTaken, State.pathOdoAfter]

theorem leadingEdge_turns (h : s.pc.direction = .reverse) :
    leadingEdge .forward s = pathOdometerChanged (pathRestart (s.edgeTaken .forward)) := by
  simp only [leadingEdge, h, State.edgeTaken, State.pathOdoAfter]

theorem pathRestart_rests (h : s.pu.laying ≠ .reversing) : pathRestart s = s := if_neg h

theorem pathRestart_restarts (h : s.pu.laying = .reversing) : pathRestart s = { s with pu := { s.pu with
    epoch := s.pu.epoch + 1, acc := 0, prevYaw := none, nextStep := s.pathStep, laying := .laying } } := if_pos h

end

/-- What an edge at the leading axle may write. -/
theorem leadingEdge_writes (d : Direction) (s : State) : leadingEdge d s = { s with
    pc := { s.pc with direction := d, pathOdo := s.pathOdoAfter d }
    pu := { s.pu with
      laying := (leadingEdge d s).pu.laying, acc := (leadingEdge d s).pu.acc, prevYaw := (leadingEdge d s).pu.prevYaw
      epoch := (leadingEdge d s).pu.epoch, nextStep := (leadingEdge d s).pu.nextStep, newest := (leadingEdge d s).pu.newest }
    su := { s.su with command := (leadingEdge d s).su.command }
    li := { s.li with pending := { s.li.pending with path := (leadingEdge d s).li.pending.path } } } := by
  cases d with
  | reverse => rw [leadingEdge_reverse]; rfl
  | forward =>
    cases h : s.pc.direction with
    | forward =>
      rw [leadingEdge_on h, pathOdometerChanged_writes]
      rfl
    | reverse =>
      rw [leadingEdge_turns h]
      by_cases hr : s.pu.laying = .reversing
      · rw [pathRestart_restarts (by exact hr), pathOdometerChanged_writes]
        rfl
      · rw [pathRestart_rests (by exact hr), pathOdometerChanged_writes]
        rfl

section
variable {s : State}

/-- A FORWARD edge outside LAYING, or before the next path step, reaches no path step. -/
theorem leadingEdge_rests (h : s.pu.laying = .idle ∨ s.pu.laying = .headingLost ∨
      (s.pu.laying = .reversing ∧ s.pc.direction = .forward) ∨
      (s.pu.laying = .laying ∧ (s.pathOdoAfter .forward - s.pu.nextStep).toInt < 0)) :
    leadingEdge .forward s = s.edgeTaken .forward := by
  have rests : ¬(s.edgeTaken .forward).crosses := by
    rintro ⟨hl, hc⟩
    change s.pu.laying = .laying at hl
    change 0 ≤ (s.pathOdoAfter .forward - s.pu.nextStep).toInt at hc
    obtain h | h | ⟨h, -⟩ | ⟨-, h⟩ := h
    · cases hl.symm.trans h
    · cases hl.symm.trans h
    · cases hl.symm.trans h
    · exact absurd hc (Int.not_le.2 h)
  cases hd : s.pc.direction with
  | forward => rw [leadingEdge_on hd, pathOdometerChanged_rests rests]
  | reverse =>
    have rest : (s.edgeTaken .forward).pu.laying ≠ .reversing := by
      intro hl
      change s.pu.laying = .reversing at hl
      simp [hl, hd] at h
    rw [leadingEdge_turns hd, pathRestart_rests rest, pathOdometerChanged_rests rests]

/-- The path unit as a restart of the path odometer leaves it (R55, R58). -/
def State.restarted (s : State) : PathUnit :=
  { s.pu with epoch := s.pu.epoch + 1, acc := 0, prevYaw := none, nextStep := s.pathStep, laying := .laying }

theorem leadingEdge_restarts (hd : s.pc.direction = .reverse) (hl : s.pu.laying = .reversing) :
    leadingEdge .forward s = pathOdometerChanged { s.edgeTaken .forward with pu := s.restarted } := by
  rw [leadingEdge_turns hd, pathRestart_restarts (by exact hl)]
  rfl

/-- The restart lays on a new epoch, whose next step stands unless the first edge has crossed it. -/
theorem leadingEdge_restarts_pu (hd : s.pc.direction = .reverse) (hl : s.pu.laying = .reversing) :
    (leadingEdge .forward s).pu = { s.restarted with
      nextStep := (leadingEdge .forward s).pu.nextStep, newest := (leadingEdge .forward s).pu.newest } ∧
    ((s.pathOdoAfter .forward - s.pathStep).toInt < 0 → (leadingEdge .forward s).pu = s.restarted) := by
  rw [leadingEdge_restarts hd hl]
  constructor
  · rw [pathOdometerChanged_writes]
  · intro short
    have rests : ¬State.crosses { s.edgeTaken .forward with pu := s.restarted } := by
      rintro ⟨-, hc⟩
      change 0 ≤ (s.pathOdoAfter .forward - s.pathStep).toInt at hc
      omega
    rw [pathOdometerChanged_rests rests]

end

/-! ### An edge at a following axle (R13, R68) -/

/-- The path has fallen behind the own odometer. -/
def State.lags (s : State) : Prop := ∃ ref, s.pu.lagRef = some ref ∧ s.sc.prof.lagLimit < (s.pc.ownOdo - ref).toNat

theorem lagCheck_stands {s : State} (hs : s.pu.lagStands = false) (h : s.lags) :
    lagCheck s = State.raise .pathLag { s with pu := { s.pu with lagStands := true } } := by
  obtain ⟨ref, hr, hl⟩ := h
  simp only [lagCheck, hr, hs, Bool.false_eq_true, if_false, if_pos hl]

theorem lagCheck_rests {s : State} (h : s.pu.lagStands = true ∨ ¬s.lags) : lagCheck s = s := by
  unfold lagCheck
  split
  · rfl
  next ref hr =>
    split
    · rfl
    next hs => exact if_neg fun hl => h.elim hs fun hn => hn ⟨ref, hr, hl⟩

/-- A following axle's state whose own odometer has taken an edge, before the lag check. -/
def State.edgeFollowed (d : Direction) (s : State) : State :=
  { s with pc := { s.pc with direction := d, ownOdo := s.ownOdoAfter d } }

/-- A FORWARD edge at which PATH_LAG comes to stand. -/
theorem followingEdge_stands {s : State} (hs : s.pu.lagStands = false) (h : (s.edgeFollowed .forward).lags) :
    followingEdge .forward s =
      State.raise .pathLag { s.edgeFollowed .forward with pu := { s.pu with lagStands := true } } :=
  lagCheck_stands hs h

/-- An edge that leaves PATH_LAG as it is. -/
theorem followingEdge_rests {d : Direction} {s : State}
    (h : s.pu.lagStands = true ∨ ¬(d = .forward ∧ (s.edgeFollowed d).lags)) : followingEdge d s = s.edgeFollowed d := by
  cases d with
  | reverse => rfl
  | forward => exact lagCheck_rests (h.imp id fun hn hl => hn ⟨rfl, hl⟩)

/-- What an edge at a following axle may write. -/
theorem followingEdge_writes (d : Direction) (s : State) : followingEdge d s = { s.edgeFollowed d with
    pu := { s.pu with lagStands := (followingEdge d s).pu.lagStands }
    li := { s.li with summary := (followingEdge d s).li.summary } } := by
  by_cases h : s.pu.lagStands = true ∨ ¬(d = .forward ∧ (s.edgeFollowed d).lags)
  · rw [followingEdge_rests h]; rfl
  · push Not at h
    obtain ⟨hs, rfl, hl⟩ := h
    rw [followingEdge_stands (Bool.eq_false_iff.2 hs) hl]; rfl

/-! ### The command -/

theorem wheelEdge_leading {w : Side} {d : Direction} {s : State} (h : s.own.isLeading = true) :
    wheelEdge w d s = leadingEdge d (recordEdge w d s) := if_pos h

theorem wheelEdge_following {w : Side} {d : Direction} {s : State} (h : s.own.isLeading = false) :
    wheelEdge w d s = followingEdge d (recordEdge w d s) := if_neg (by simp [h])

theorem StationRec.isLeading_axle (k : Nat) (r : AxleRec) : (StationRec.axle k r).isLeading = true ↔ k = 1 := by
  simp [StationRec.isLeading]

theorem State.halfPitch_axle {s : State} {k : Nat} {r : AxleRec} (h : s.own = .axle k r) :
    s.halfPitch = BitVec.ofNat 32 (r.pitch / 2) := by
  simp [State.halfPitch, h, StationRec.axle?]

theorem exec_wheelEdge {dt : Nat} {w : Side} {d : Direction} {s : State} (hp : s.powered = true) (hr : s.runs = true)
    (ha : s.own.isAxle = true) : exec (.wheelEdge dt w d) s = .next (wheelEdge w d (s.elapse dt)) := by
  refine runWhen_ready hp ?_
  rw [State.capturesPulses, State.elapse_own, State.elapse_runs, hr, ha]
  rfl

/-- What an edge may write. -/
theorem wheelEdge_writes (w : Side) (d : Direction) (s : State) : wheelEdge w d s = { s with
    pc := (wheelEdge w d s).pc
    pu := (wheelEdge w d s).pu
    su := { s.su with command := (wheelEdge w d s).su.command }
    li := { s.li with
      summary := (wheelEdge w d s).li.summary
      pending := { s.li.pending with path := (wheelEdge w d s).li.pending.path } } } := by
  cases h : s.own.isLeading with
  | true =>
    rw [wheelEdge_leading h, leadingEdge_writes, recordEdge_eq]
  | false =>
    rw [wheelEdge_following h, followingEdge_writes, recordEdge_eq]
    rfl

/-- The recorded edge leaves what the odometer of an edge is formed from. -/
theorem recordEdge_odo (w : Side) (d : Direction) (s : State) :
    (recordEdge w d s).pathOdoAfter d = s.pathOdoAfter d ∧ (recordEdge w d s).ownOdoAfter d = s.ownOdoAfter d ∧
      (recordEdge w d s).pc.direction = s.pc.direction := by
  rw [recordEdge_eq]
  cases w <;> exact ⟨rfl, rfl, rfl⟩

/-- The wheels after an edge: its own has it in its queue, the other stays. -/
theorem wheelEdge_wheel (w x : Side) (d : Direction) (s : State) : (wheelEdge w d s).pc.wheel x =
    if x = w then (s.pc.wheel w).append ⟨s.now, d⟩ else s.pc.wheel x := by
  rw [wheelEdge_pc, ← PulseCapture.setWheel_wheel]
  exact PulseCapture.wheel_congr rfl rfl x

/-- Settles O13: the recorded edge, the odometers, and the path unit of the leading axle or the lag of a following one. -/
theorem wheelEdges : Obligations.WheelEdges := by
  intro dt w d r k s u recorded hp hruns hown
  have own : u.own = .axle k r := (State.elapse_own ..).trans hown
  have pc : u.pc = s.pc := by simp [u]
  have li : u.li = s.li := by simp [u]
  have pu : u.pu = s.pu := by simp [u]
  have su : u.su = s.su := by simp [u]
  have sc : u.sc = s.sc := by simp [u]
  refine ⟨wheelEdge w d u, exec_wheelEdge hp hruns (by rw [hown]; rfl), ?_⟩
  clear_value u
  have pulse := wheelEdge_pc w d u
  have half := State.halfPitch_axle own
  have command : (wheelEdge w d u).su = { u.su with command := (wheelEdge w d u).su.command } := by
    conv_lhs => rw [wheelEdge_writes]
  have step : u.pathStep = BitVec.ofNat 32 s.sc.prof.pathStep := by rw [State.pathStep, sc]
  have edge := recordEdge_eq w d u
  set v := recordEdge w d u
  have leads : u.own.isLeading = true ↔ k = 1 := by rw [own]; exact StationRec.isLeading_axle k r
  have taken : v.li.summary = recorded := by rw [edge, li, pc]
  have vpu : v.pu = s.pu := by rw [edge]; exact pu
  have vsu : v.su = s.su := by rw [edge]; exact su
  have vpending : v.li.pending = s.li.pending := by rw [edge, ← li]
  obtain ⟨-, -, vdirection⟩ := recordEdge_odo w d u
  rw [pc] at vdirection
  have vstep : v.pathStep = BitVec.ofNat 32 s.sc.prof.pathStep := by rw [← step, State.pathStep, edge]; rfl
  have lead (hk : k = 1) : wheelEdge w d u = leadingEdge d v := wheelEdge_leading (leads.2 hk)
  have follow (hk : k ≠ 1) : wheelEdge w d u = followingEdge d v :=
    wheelEdge_following (Bool.eq_false_iff.2 fun h => hk (leads.1 h))
  refine ⟨?queue, ?others, ?speed, ?axle, ?direction, ?path, ?own, ?leading, ?following, ?command, ?frame⟩
  case queue => rw [wheelEdge_wheel, if_pos rfl, ← pc]; rfl
  case others => intro x hx; rw [wheelEdge_wheel, if_neg hx, pc]
  case speed => rw [wheelEdge_wheel, if_pos rfl, ← pc]; rfl
  case axle => rw [pulse, ← pc]; simp
  case direction => rw [pulse]
  case path =>
    intro hk
    rw [pulse, if_pos (leads.2 hk), if_pos (leads.2 hk), ← pc, ← half]
    exact ⟨rfl, rfl⟩
  case own =>
    intro hk
    rw [pulse, if_neg fun h => hk (leads.1 h), if_neg fun h => hk (leads.1 h), ← pc, ← half]
    exact ⟨rfl, rfl⟩
  case leading =>
    intro hk
    have odo : (leadingEdge d v).pc.pathOdo = v.pathOdoAfter d := by rw [leadingEdge_pc]
    rw [lead hk, ← vpu, ← vsu, ← vpending, ← vstep, ← vdirection, odo]
    refine ⟨?_, ?_, ?_, ?_, ?_⟩
    · rw [leadingEdge_writes]; exact taken
    · conv_lhs => rw [leadingEdge_writes]
    · rintro rfl
      rw [leadingEdge_reverse]
      exact ⟨rfl, rfl, rfl⟩
    · rintro rfl hd hl
      obtain ⟨frame, short⟩ := leadingEdge_restarts_pu hd hl
      refine ⟨by rw [frame]; rfl, by rw [frame]; rfl, by rw [frame]; rfl, by rw [frame]; rfl, fun h => ?_⟩
      rw [short h]
      exact ⟨rfl, rfl⟩
    · rintro rfl h
      rw [leadingEdge_rests h]
      exact ⟨rfl, rfl, rfl⟩
  case following =>
    intro hk lags
    have lagging : lags ↔ d = .forward ∧ (v.edgeFollowed d).lags := by
      have odo : (wheelEdge w d u).pc.ownOdo = (v.edgeFollowed d).pc.ownOdo := by rw [follow hk, followingEdge_writes]
      have prof : v.sc = s.sc := by rw [edge, ← sc]
      simp only [lags, State.lags, odo, ← vpu, ← prof]
      rfl
    rw [lagging, follow hk, ← vpu, ← vsu, ← vpending, ← taken]
    refine ⟨by rw [followingEdge_writes]; rfl, by rw [followingEdge_writes], ?_, ?_⟩
    · rintro hs ⟨rfl, hl⟩
      rw [followingEdge_stands hs hl]
      exact ⟨rfl, rfl⟩
    · intro h
      rw [followingEdge_rests h]
      exact ⟨rfl, rfl⟩
  case command => rw [← su, ← command]
  case frame =>
    conv_lhs => rw [wheelEdge_writes]
    rw [← li, ← command]

/-! ### A yaw completion (R53 to R55) -/

/-- A yaw completion sees the path unit, the path odometer, the direction and the time alone. -/
theorem yawCompletion_pu_congr (c : Channel) (cs : Scan) (li : LineInterface) (s : State) :
    (yawCompletion c { s with cs := cs, li := li }).pu = (yawCompletion c s).pu := by
  unfold yawCompletion
  dsimp only
  (repeat' split) <;> rfl

/-- The completion of channel 7 at the leading axle hands the path unit the record it leaves. -/
theorem completeConversion_yaw {code : BitVec 10} {s : State} (h : s.own.isLeading = true) :
    (completeConversion 7 code s).pu = (yawCompletion (s.completedChannel 7 code) s).pu := by
  unfold completeConversion
  simp only [State.raiseIf_eq, h, and_self, if_true]
  exact yawCompletion_pu_congr ..

section
variable {c : Channel} {s : State}

theorem yawCompletion_failed (hl : s.pu.laying = .laying ∨ s.pu.laying = .reversing) (hc : c.condition = .failed) :
    yawCompletion c s = { s with pu := { s.pu with laying := .headingLost } } := by
  obtain hl | hl := hl <;> simp only [yawCompletion, hl, hc, if_true]

theorem yawCompletion_reversing (hl : s.pu.laying = .reversing) (hc : c.condition ≠ .failed) : yawCompletion c s = s := by
  simp only [yawCompletion, hl, hc, if_false]

/-- A channel that is not FAILED presents its value. -/
theorem Channel.reading_of_not_failed (hc : c.condition ≠ .failed) : c.reading = c.value := by
  cases h : c.condition with
  | failed => exact absurd h hc
  | good | holding => simp only [Channel.reading, h]

theorem Channel.not_failed_of_reading {v : Int} (h : c.reading = some v) : c.condition ≠ .failed := by
  intro hc
  simp [Channel.reading, hc] at h

theorem yawCompletion_read {v : Int} (hl : s.pu.laying = .laying) (hv : c.reading = some v) :
    yawCompletion c s = { s with pu := s.pu.integrate v s.now } := by
  have hc := Channel.not_failed_of_reading hv
  simp only [yawCompletion, hl, hc, if_false, (Channel.reading_of_not_failed hc).symm.trans hv]

theorem yawCompletion_unread (hl : s.pu.laying = .laying) (hc : c.condition ≠ .failed) (hv : c.reading = none) :
    yawCompletion c s = { s with pu := { s.pu with prevYaw := some s.now } } := by
  simp only [yawCompletion, hl, hc, if_false, (Channel.reading_of_not_failed hc).symm.trans hv]

theorem yawCompletion_lost (hl : s.pu.laying = .headingLost) (hv : c.goodReading = none) : yawCompletion c s = s := by
  simp only [yawCompletion, hl, hv]

theorem yawCompletion_recovers {v : Int} (hl : s.pu.laying = .headingLost) (hv : c.goodReading = some v) :
    yawCompletion c s = { s with pu := { s.pu with
      acc := 0
      prevYaw := some s.now
      nextStep := s.pc.pathOdo + s.pathStep
      epoch := if s.pc.direction = .forward then s.pu.epoch + 1 else s.pu.epoch
      laying := if s.pc.direction = .forward then .laying else .reversing } } := by
  simp only [yawCompletion, hl, hv]

end

/-! ### The two parts -/

/-- Settles O14: the point laid at a crossed path step, and the yaw completion by the laying state. -/
theorem pathPointLaid : Obligations.PathPointLaid := by
  refine ⟨?edge, ?yaw⟩
  case edge =>
    intro dt w r s odo hp hruns hown hl hd crossed
    set u := s.elapse dt
    have own : u.own = .axle 1 r := (State.elapse_own ..).trans hown
    have pc : u.pc = s.pc := by simp [u]
    have li : u.li = s.li := by simp [u]
    have pu : u.pu = s.pu := by simp [u]
    have su : u.su = s.su := by simp [u]
    have sc : u.sc = s.sc := by simp [u]
    have cs : u.cs = s.cs := by simp [u]
    refine ⟨wheelEdge w .forward u, exec_wheelEdge hp hruns (by rw [hown]; rfl), ?_⟩
    clear_value u
    rw [wheelEdge_leading (by rw [own]; rfl)]
    set v := recordEdge w .forward u with hv
    have edge := recordEdge_eq w .forward u
    obtain ⟨vodo, -, vdirection⟩ := recordEdge_odo w .forward u
    rw [← hv] at edge vodo vdirection
    have vpu : v.pu = s.pu := by rw [edge]; exact pu
    have vsu : v.su = s.su := by rw [edge]; exact su
    have vpending : v.li.pending = s.li.pending := by rw [edge, ← li]
    have vodo : v.pathOdoAfter .forward = odo := by
      rw [vodo, State.pathOdoAfter_on (by rw [pc]; exact hd), State.halfPitch_axle own, pc]
    have vstep : v.pathStep = BitVec.ofNat 32 s.sc.prof.pathStep := by rw [State.pathStep, edge, sc]
    have vchannel : v.channel 6 = s.channel 6 := by rw [State.channel, edge, cs]; rfl
    have crosses : (v.edgeTaken .forward).crosses := by
      refine ⟨by exact vpu ▸ hl, ?_⟩
      change 0 ≤ (v.pathOdoAfter .forward - v.pu.nextStep).toInt
      rw [vodo, vpu]
      exact crossed
    rw [leadingEdge_on (by rw [vdirection, pc]; exact hd), ← vpu, ← vsu, ← vpending, ← vstep, ← vodo, ← vchannel]
    cases reading : (v.channel 6).reading with
    | some d1 =>
      rw [pathOdometerChanged_lays crosses reading]
      refine ⟨rfl, fun x hx => ?_, fun h => (by cases h), rfl, rfl⟩
      cases hx
      exact ⟨rfl, rfl, rfl⟩
    | none =>
      rw [pathOdometerChanged_unread crosses reading]
      exact ⟨rfl, fun x hx => (by cases hx), fun _ => ⟨rfl, rfl, rfl⟩, rfl, rfl⟩
  case yaw =>
    intro dt code r c s u hp hruns hown hconv h7
    have cs : u.cs = s.cs := by simp [u]
    have pu : u.pu = s.pu := by simp [u]
    have pc : u.pc = s.pc := by simp [u]
    have sc : u.sc = s.sc := by simp [u]
    have own : u.own = .axle 1 r := (State.elapse_own ..).trans hown
    have ready : u.converting = true := by
      have runs : u.runs = true := by simpa [u] using hruns
      rw [State.converting, runs, cs, hconv]; rfl
    have effect : conversionComplete code u = completeConversion 7 (c.code code) u := by
      simp only [conversionComplete, cs, hconv, h7]
    refine ⟨completeConversion 7 (c.code code) u, (runWhen_ready hp ready).trans (congrArg _ effect), ?_⟩
    clear_value u
    intro yaw
    have hyaw : yaw = u.completedChannel 7 (c.code code) := by
      change (completeConversion 7 (c.code code) u).cs.channels[(7 : Fin 8)] = _
      rw [completeConversion_eq]
      exact Vector.getElem_set_self _
    have step : u.pathStep = BitVec.ofNat 32 s.sc.prof.pathStep := by rw [State.pathStep, sc]
    rw [completeConversion_yaw (by rw [own]; rfl), ← hyaw, ← pu, ← pc, ← step]
    clear_value yaw
    refine ⟨fun hl => ?_, fun hl hc => ?_, fun hl hc => ?_, fun v hl hv => ⟨fun p hprev => ?_, fun hprev => ?_⟩,
      fun hl hc hv => ?_, fun hl hv => ?_, fun v hl hv => ?_⟩
    · simp only [yawCompletion, hl]
    · rw [yawCompletion_failed hl hc]
    · rw [yawCompletion_reversing hl hc]
    · rw [yawCompletion_read hl hv]
      simp only [PathUnit.integrate, hprev]
      rfl
    · rw [yawCompletion_read hl hv]
      simp only [PathUnit.integrate, hprev]
    · rw [yawCompletion_unread hl hc hv]
    · rw [yawCompletion_lost hl hv]
    · rw [yawCompletion_recovers hl hv]

end Sys2Proof.Machine
end

section
/-! PROOF. Station control (10): what power-on and a restart clear (R185), leaving POWERUP, the end of the listen window (R189)
and peer silence (R190). -/

namespace Sys2Proof.Machine

/-! ### What a reset clears -/

section
variable {s : State} {pathStep rideHeight : Nat} {clearCount : BitVec 8} {levelLatch kneelLatch fault active unread : Bool}
  {locks : LockLevels} {doors : List Door}

/-- Units at their reset values, latches, clear count and line level set aside, meet `State.Cleared`. -/
theorem State.cleared_of_reset (sched : s.sched = Schedules.stopped)
    (control : s.sc.heard = false ∧ s.sc.lastPeer = none ∧ s.sc.listenStart = none)
    (pc : s.pc = PulseCapture.reset) (cs : s.cs = Scan.reset)
    (li : s.li = { LineInterface.reset with lineActive := active }) (pv : s.pv = PeerView.reset)
    (pu : s.pu = PathUnit.reset pathStep)
    (lu : s.lu = { LevelUnit.reset rideHeight levelLatch kneelLatch with restartFault := fault })
    (du : s.du = ⟨withLocks resetDoor locks doors, [], locks⟩) (cu : s.cu = CabUnit.reset clearCount unread) :
    s.Cleared pathStep rideHeight where
  schedules := sched
  control := control
  pulses := pc
  channels := by
    rw [cs]
    exact ⟨rfl, fun i => Vector.getElem_replicate ..⟩
  receive := by rw [li]; exact ⟨rfl, rfl, rfl, rfl, rfl⟩
  transmit := by rw [li]; exact ⟨rfl, rfl, rfl, rfl, rfl⟩
  peers := by
    intro n
    have entry : s.pv.peers[n] = PeerEntry.reset := by rw [pv]; exact Vector.getElem_replicate ..
    rw [entry]
    exact ⟨rfl, rfl, rfl⟩
  demand := by rw [pv]; exact ⟨rfl, rfl⟩
  working := by rw [pv]; exact ⟨rfl, rfl, rfl, rfl, rfl⟩
  path := pu
  corners := by
    intro x
    rw [lu]
    cases x <;> rfl
  level := by rw [lu]; exact ⟨rfl, rfl, rfl, rfl⟩
  doors := by
    rw [du]
    exact ⟨rfl, forall_withLocks (P := fun _ => True) (fun _ _ _ => ⟨rfl, rfl, rfl, rfl, rfl, rfl, rfl⟩) fun _ _ => trivial⟩
  cab := by
    rw [cu]
    refine ⟨rfl, rfl, rfl, rfl, rfl, rfl, rfl, rfl, fun g => ?_⟩
    cases g <;> rfl

end

/-- Settles O4: every unit at its power-on values. -/
theorem powerOnControl : Obligations.PowerOnControl := by
  intro strap high locks s
  refine ⟨powerOn strap high locks s, rfl, rfl, rfl, rfl, rfl, rfl, rfl, rfl, rfl, rfl, ?_, rfl, rfl, rfl, rfl, rfl⟩
  exact State.cleared_of_reset (doors := []) rfl ⟨rfl, rfl, rfl⟩ rfl rfl rfl rfl rfl rfl rfl rfl

/-! ### A restart -/

/-- A pulse of at least 10 µs outside INERT is a restart (R185). -/
theorem exec_restart {dt lowFor : Nat} {locks : LockLevels} {s : State} (hp : s.powered = true)
    (hs : s.sc.station ≠ .inert) (hl : 10 ≤ lowFor) :
    exec (.restart dt lowFor locks) s = .next (restartValues locks (s.elapse dt)) := by
  have long : isRestart lowFor (s.elapse dt) = true := decide_eq_true hl
  have sc : (s.elapse dt).sc = s.sc := by simp
  refine (runWhen_ready hp long).trans (congrArg _ (if_neg ?_))
  rw [sc]
  exact hs

/-- Settles O5: the units' tables, after power-on and after a restart. -/
theorem unitsAfterReset : Obligations.UnitsAfterReset := by
  refine ⟨fun strap high locks s => ⟨powerOn strap high locks s, rfl, rfl, rfl, rfl, rfl, rfl⟩, ?_⟩
  intro dt lowFor locks s hp hs hl
  have su : (s.elapse dt).su = s.su := by simp
  have hu : (s.elapse dt).hu = s.hu := by simp
  refine ⟨_, exec_restart hp hs hl, ?_⟩
  rw [← su, ← hu]
  exact ⟨rfl, rfl, rfl, rfl, rfl⟩

theorem restartValues_cleared (locks : LockLevels) (s : State) :
    (restartValues locks s).Cleared s.sc.prof.pathStep s.sc.prof.rideHeight :=
  State.cleared_of_reset rfl ⟨rfl, rfl, rfl⟩ rfl rfl rfl rfl rfl rfl rfl rfl

theorem resetDoor_held (home : Bool) (d : Door) :
    (resetDoor home d).heldFault = true ↔ home = false ∧ (d.state = .opened ∨ d.heldFault = true) := by
  simp [resetDoor, or_comm]

/-- Settles O6: the cleared items, and the doors judged by their lock switches. -/
theorem restartKeepsAndClears : Obligations.RestartKeepsAndClears := by
  intro dt lowFor locks s hp hs hl
  set u := s.elapse dt with hu
  have sc : u.sc = s.sc := by simp [u]
  have li : u.li = s.li := by simp [u]
  have lu : u.lu = s.lu := by simp [u]
  have du : u.du = s.du := by simp [u]
  have cu : u.cu = s.cu := by simp [u]
  have now : u.now = s.now + BitVec.ofNat 32 dt := by rw [hu, State.elapse_now dt hp]; rfl
  refine ⟨restartValues locks u, exec_restart hp hs hl, ?_⟩
  clear_value u
  have judged (i : Nat) (hi : i < 2) : (restartValues locks u).du.doors[i]? =
      s.du.doors[i]?.map (resetDoor (if i = 0 then locks.first else locks.second)) :=
    (withLocks_getElem? hi _).trans (by rw [du])
  have doors : (restartValues locks u).du.doors = withLocks resetDoor locks s.du.doors := by rw [← du]; rfl
  refine ⟨rfl, by rw [← sc]; exact restartValues_cleared locks u, now, by rw [← sc]; rfl, by rw [← sc]; rfl,
    by rw [← sc]; rfl, by rw [← sc]; rfl, by rw [← cu]; rfl, by rw [← lu]; rfl, by rw [← lu]; rfl, ?_, ?_, ?_,
    fun d hd => ?_, fun d hd => ?_, fun k d hk hd => ?_, by rw [← li]; rfl⟩
  · rw [doors]; exact withLocks_map (f := resetDoor) (g := (·.number)) locks (fun _ _ => rfl) _
  · rw [doors]; exact withLocks_map (f := resetDoor) (g := (·.latch)) locks (fun _ _ => rfl) _
  · rw [doors]
    refine forall_withLocks (P := fun _ => True) (fun home d _ => ?_) fun _ _ => trivial
    cases home
    · exact .inr rfl
    · exact .inl rfl
  · rw [judged 0 (by omega)] at hd
    obtain ⟨e, -, rfl⟩ := Option.map_eq_some_iff.1 hd
    rfl
  · rw [judged 1 (by omega)] at hd
    obtain ⟨e, -, rfl⟩ := Option.map_eq_some_iff.1 hd
    rfl
  · rw [judged k hk, hd]
    exact ⟨_, rfl, rfl, resetDoor_held ..⟩

/-! ### A restart taken in INERT, and the restart input going high (R185, R191) -/

section
variable {s : State}

/-- The requests of INERT as the restart input goes high, with no duplicate found. -/
theorem inertInputHigh_single (h : s.sc.duplicate = false) : inertInputHigh s =
    { s with sched := inertSchedules s.sc.prof s.now }.startIdleWait.request .status :=
  if_neg (by change ¬s.sc.duplicate = true; rw [h]; decide)

theorem State.requestFinalNotice_of_event (h : s.li.summary ≠ []) : s.requestFinalNotice = s.request .notice := by
  have events : (!s.li.summary.isEmpty) = true := by simpa using h
  rw [State.requestFinalNotice, events]
  rfl

theorem inertInputHigh_duplicate (h : s.sc.duplicate = true) : inertInputHigh s =
    (({ s with sched := inertSchedules s.sc.prof s.now }.startIdleWait.request .status).raise
      .duplicateStation).request .notice := by
  refine (if_pos h).trans (State.requestFinalNotice_of_event ?_)
  exact List.ne_nil_of_mem ((mem_insertKind ..).2 (.inl rfl))

end

/-- Settles O7: the whole state of a restart in INERT, and the requests when the input goes high. -/
theorem restartInInert : Obligations.RestartInInert := by
  refine ⟨?restart, ?high⟩
  case restart =>
    intro dt lowFor locks s hp hs hl
    have sc : (s.elapse dt).sc = s.sc := by simp
    have li : (s.elapse dt).li = s.li := by simp
    have cu : (s.elapse dt).cu = s.cu := by simp
    have long : isRestart lowFor (s.elapse dt) = true := decide_eq_true hl
    refine (runWhen_ready hp long).trans (congrArg _ ((if_pos (by rw [sc]; exact hs)).trans ?_))
    rw [← sc, ← li, ← cu]
    rfl
  case high =>
    intro dt s u hp hs hlow
    have sc : u.sc = s.sc := by simp [u]
    have li : u.li = s.li := by simp [u]
    have low : u.inputLow = true := by rw [State.inputLow, sc]; exact hlow
    refine ⟨restartInputHigh u, runWhen_ready hp low, ?_⟩
    clear_value u
    have effect : restartInputHigh u = inertInputHigh { u with sc := { u.sc with restartLow := false } } := by
      simp only [restartInputHigh, sc, hs]
    rw [effect, ← sc, ← li]
    cases hd : u.sc.duplicate with
    | true =>
      rw [inertInputHigh_duplicate (by exact hd)]
      exact ⟨rfl, rfl, rfl, rfl, fun _ => ⟨(mem_insertKind ..).2 (.inl rfl), rfl⟩, fun h => by cases h⟩
    | false =>
      rw [inertInputHigh_single (by exact hd)]
      exact ⟨rfl, rfl, rfl, rfl, fun h => (by cases h), fun _ => ⟨rfl, rfl⟩⟩

/-! ### Leaving POWERUP (R185) -/

section
variable {s : State}

theorem leavePowerup_unchecked (h : s.sc.check = .none) : leavePowerup s = { s with
    sc := { s.sc with station := .profileLoad }
    cu := { s.cu with lampStart := some s.now } } := by
  simp only [leavePowerup, h]

theorem leavePowerup_passed (h : s.sc.check = .passed) :
    leavePowerup s = enterListening { s with cu := { s.cu with lampStart := some s.now } } := by
  simp only [leavePowerup, h]

end

/-- Settles O8: the two flags, and the check result that chooses where the station goes. -/
theorem leavingPowerup : Obligations.LeavingPowerup := by
  intro dt s u hp hs
  have sc : u.sc = s.sc := by simp [u]
  have hu : u.hu = s.hu := by simp [u]
  have own : u.own = s.own := State.elapse_own ..
  have settles (hn : s.sc.settled = false) : exec (.supplySettled dt) s = .next (supplySettled u) := by
    refine runWhen_ready hp ?_
    change u.settles = true
    rw [State.settles, sc, hs, hn]
    rfl
  have high (hl : s.sc.restartLow = true) : exec (.restartInputHigh dt) s = .next (restartInputHigh u) := by
    refine runWhen_ready hp ?_
    change u.sc.restartLow = true
    rw [sc]
    exact hl
  clear_value u
  have effect : restartInputHigh u =
      if u.sc.settled then leavePowerup { u with sc := { u.sc with restartLow := false } }
      else { u with sc := { u.sc with restartLow := false } } := by
    simp only [restartInputHigh, sc, hs]
  refine ⟨fun hn hl => ?_, fun hn hl hc => ?_, fun hl hn => ?_, fun hl hn hc => ?_, fun hl hn hc => ?_⟩
  · rw [settles hn]
    exact congrArg _ (if_pos (by rw [sc]; exact hl))
  · rw [settles hn]
    refine congrArg _ ((if_neg (by rw [sc, hl]; decide)).trans ?_)
    exact leavePowerup_unchecked (by rw [sc]; exact hc)
  · rw [high hl, effect, sc, hn]
    rfl
  · refine ⟨_, high hl, ?_⟩
    rw [effect, sc, hn, if_pos rfl, leavePowerup_unchecked (by exact hc)]
  · refine ⟨_, high hl, ?_⟩
    rw [effect, sc, hn, if_pos rfl, leavePowerup_passed (by exact hc)]
    set v : State := { u with sc := { s.sc with restartLow := false }, cu := { u.cu with lampStart := some u.now } } with hv
    have vown : v.own = s.own := by rw [← own, State.own, State.own, sc]
    obtain ⟨control, -, -, -, hold⟩ := enterListening_units v
    rw [vown] at hold
    refine ⟨by rw [control], by rw [control], by rw [control], rfl, fun ha => ?_, fun ha => ?_⟩
    · rw [hold, ha, ← hu]; rfl
    · rw [hold, ha, ← hu]; rfl

/-! ### The listen window and peer silence (R52, R189, R190) -/

section
variable {s : State}

/-- The leading axle's path unit as it starts (R52). -/
def State.drivingPath (s : State) : PathUnit := { s.pu with
  acc := 0
  prevYaw := none
  nextStep := s.pc.pathOdo + s.pathStep
  laying :=
    if (s.channel 7).condition = .failed then .headingLost
    else if s.pc.direction = .forward then .laying else .reversing }

theorem pathEnterDriving_eq (s : State) :
    pathEnterDriving s = { s with pu := if s.own.isLeading then s.drivingPath else s.pu } := by
  unfold pathEnterDriving
  split <;> rfl

/-- The end of the listen window, whole. -/
theorem listenWindowEnd_eq (s : State) : listenWindowEnd s = { s with
    sc := { s.sc with listenStart := none, station := if s.sc.heard then .active else .isolated }
    pu := if s.own.isLeading then s.drivingPath else s.pu
    li := { s.li with summary := if s.sc.heard then s.li.summary else insertKind .linkLoss s.li.summary } } := by
  unfold listenWindowEnd
  rw [pathEnterDriving_eq]
  dsimp only
  split
  · rfl
  · rfl

end

/-- Settles O12: the whole state at the window's end, and ISOLATED after silence. -/
theorem listenEndAndSilence : Obligations.ListenEndAndSilence := by
  refine ⟨?window, ?silence⟩
  case window =>
    intro dt s u hp hs hw
    have sc : u.sc = s.sc := by simp [u]
    have li : u.li = s.li := by simp [u]
    have pc : u.pc = s.pc := by simp [u]
    have pu : u.pu = s.pu := by simp [u]
    have channel : u.channel 7 = s.channel 7 := State.elapse_channel ..
    have ended : u.windowOver = true := by
      simp only [State.windowOver, sc, hs]
      exact hw
    refine ⟨listenWindowEnd u, runWhen_ready hp ended, ?_⟩
    clear_value u
    rw [listenWindowEnd_eq, ← sc, ← li, ← pc, ← pu, ← channel]
    refine ⟨rfl, rfl, fun hh => ?_, fun hh => ?_, fun hl => ?_, fun hl => ?_⟩
    · rw [hh]; exact ⟨rfl, rfl⟩
    · rw [hh]; exact ⟨rfl, (mem_insertKind ..).2 (.inl rfl)⟩
    · rw [hl]; rfl
    · rw [hl]; exact ⟨rfl, rfl, rfl, rfl, rfl⟩
  case silence =>
    intro dt s p u hp hs hl ha
    have sc : u.sc = s.sc := by simp [u]
    have silent : u.peersSilent = true := by
      simp only [State.peersSilent, sc, hs, hl]
      exact decide_eq_true ha
    exact (runWhen_ready hp silent).trans rfl

end Sys2Proof.Machine
end

section
/-! PROOF. The profile load (R187) and the range clamps (R188). -/

namespace Sys2Proof.Machine

/-! ### The clamps bring to the nearest value -/

/-- `y` is the value of `[lo, hi]` nearest to `x`. -/
def Near (lo hi x y : Nat) : Prop :=
  lo ≤ y ∧ y ≤ hi ∧ (lo ≤ x → x ≤ hi → y = x) ∧ (x < lo → y = lo) ∧ (hi < x → y = hi)

theorem clampNat_near {lo hi : Nat} (x : Nat) (h : lo ≤ hi) : Near lo hi x (clampNat lo hi x) := by
  unfold Near clampNat
  (repeat' split) <;> omega

/-- The nearest even value of a range with even ends, an odd one taken as the next lower. -/
def NearEven (lo hi x y : Nat) : Prop :=
  y % 2 = 0 ∧ lo ≤ y ∧ y ≤ hi ∧ (lo ≤ x → x ≤ hi → y = x - x % 2) ∧ (x < lo → y = lo) ∧ (hi < x → y = hi)

theorem evenDown_clampNat_near {lo hi : Nat} (x : Nat) (h : lo ≤ hi) (hlo : lo % 2 = 0) (hhi : hi % 2 = 0) :
    NearEven lo hi x (evenDown (clampNat lo hi x)) := by
  unfold NearEven evenDown clampNat
  (repeat' split) <;> omega

/-- The nearest offset of magnitude at most `l`. -/
def NearOffset (l x y : Int) : Prop :=
  -l ≤ y ∧ y ≤ l ∧ (-l ≤ x → x ≤ l → y = x) ∧ (x < -l → y = -l) ∧ (l < x → y = l)

theorem clampInt_near {l : Int} (x : Int) (h : 0 ≤ l) : NearOffset l x (clampInt (-l) l x) := by
  unfold NearOffset clampInt
  (repeat' split) <;> omega

/-- The nearest spacing, an absent one staying absent. -/
def NearSpacing (x y : Option Nat) : Prop :=
  (x = none → y = none) ∧ ∀ d, x = some d → ∃ e, y = some e ∧ Near 1 30000 d e

theorem clampSpacing_near (x : Option Nat) : NearSpacing x (clampSpacing x) := by
  refine ⟨fun h => by rw [h]; rfl, fun d h => ⟨_, by rw [h]; rfl, clampNat_near d (by decide)⟩⟩

/-! ### The channel calibrations (R14) -/

section
variable {limits : List Int} {cal : List ChannelCal}

/-- A clamped calibration is that of a channel with a limit. -/
theorem getElem?_clampCal {i : Nat} {c : ChannelCal} (h : (clampCal limits cal)[i]? = some c) :
    ∃ l b, limits[i]? = some l ∧ cal[i]? = some b ∧ c = ⟨clampNat 0 1023 b.gain, clampInt (-l) l b.offset⟩ := by
  rw [clampCal, List.getElem?_zipWith_eq_some] at h
  obtain ⟨l, b, hl, hb, rfl⟩ := h
  exact ⟨l, b, hl, hb, rfl⟩

/-- The nearest calibration under an offset limit. -/
def NearCal (l : Int) (x y : ChannelCal) : Prop := Near 0 1023 x.gain y.gain ∧ NearOffset l x.offset y.offset

theorem clampCal_near {limit : Nat → Int} (h : ∀ i l, limits[i]? = some l → l = limit i ∧ 0 ≤ l) {i : Nat} {c : ChannelCal}
    (hc : (clampCal limits cal)[i]? = some c) : ∃ b, cal[i]? = some b ∧ NearCal (limit i) b c := by
  obtain ⟨l, b, hl, hb, rfl⟩ := getElem?_clampCal hc
  obtain ⟨rfl, hn⟩ := h i l hl
  exact ⟨b, hb, clampNat_near _ (by decide), clampInt_near _ hn⟩

theorem length_clampCal (h : cal.length = limits.length) : (clampCal limits cal).length = limits.length := by
  rw [clampCal, List.length_zipWith, h, min_self]

end

theorem axleOffsets_getElem? {i : Nat} {l : Int} (h : axleOffsets[i]? = some l) :
    l = (if i ≤ 1 then 1000 else if i ≤ 5 then 1200 else 6000) ∧ 0 ≤ l := by
  have hi : i < 8 := (List.getElem?_eq_some_iff.1 h).1
  interval_cases i <;> cases h <;> decide

theorem jointOffsets_getElem? {i : Nat} {l : Int} (h : jointOffsets[i]? = some l) :
    l = (if i = 0 then 16384 else 1200) ∧ 0 ≤ l := by
  have hi : i < 2 := (List.getElem?_eq_some_iff.1 h).1
  interval_cases i <;> cases h <;> decide

theorem cabOffsets_getElem? {i : Nat} {l : Int} (h : cabOffsets[i]? = some l) : l = 100 ∧ 0 ≤ l := by
  have hi : i < 2 := (List.getElem?_eq_some_iff.1 h).1
  interval_cases i <;> cases h <;> decide

/-! ### The clamps, once -/

theorem clampNat_of_mem {lo hi x : Nat} (h : lo ≤ x) (h' : x ≤ hi) : clampNat lo hi x = x := by
  unfold clampNat
  (repeat' split) <;> omega

theorem clampNat_clampNat {lo hi : Nat} (x : Nat) (h : lo ≤ hi) : clampNat lo hi (clampNat lo hi x) = clampNat lo hi x :=
  clampNat_of_mem (le_clampNat x h) (clampNat_le x h)

theorem clampInt_clampInt {lo hi : Int} (x : Int) (h : lo ≤ hi) : clampInt lo hi (clampInt lo hi x) = clampInt lo hi x := by
  unfold clampInt
  (repeat' split) <;> omega

theorem evenDown_clampNat_evenDown {lo hi : Nat} (x : Nat) (h : lo ≤ hi) (hlo : lo % 2 = 0) (hhi : hi % 2 = 0) :
    evenDown (clampNat lo hi (evenDown (clampNat lo hi x))) = evenDown (clampNat lo hi x) := by
  unfold evenDown clampNat
  (repeat' split) <;> omega

theorem clampSpacing_clampSpacing (x : Option Nat) : clampSpacing (clampSpacing x) = clampSpacing x := by
  cases x with
  | none => rfl
  | some d => exact congrArg some (clampNat_clampNat d (by decide))

theorem clampCal_clampCal {limits : List Int} (h : ∀ l ∈ limits, 0 ≤ l) (cal : List ChannelCal) :
    clampCal limits (clampCal limits cal) = clampCal limits cal := by
  induction limits generalizing cal with
  | nil => rfl
  | cons l ls ih =>
    cases cal with
    | nil => rfl
    | cons c cs =>
      have hl : 0 ≤ l := h l (by simp)
      have tail := ih (fun x hx => h x (by simp [hx])) cs
      have gain := clampNat_clampNat c.gain (by decide : 0 ≤ 1023)
      have offset := clampInt_clampInt c.offset (by omega : -l ≤ l)
      simp only [clampCal, List.zipWith_cons_cons, gain, offset] at tail ⊢
      rw [tail]

theorem AxleRec.clamped_clamped (r : AxleRec) (leading : Bool) : (r.clamped leading).clamped leading = r.clamped leading := by
  have spacing : (if leading then (if leading then r.spacing else clampSpacing r.spacing)
      else clampSpacing (if leading then r.spacing else clampSpacing r.spacing)) =
      if leading then r.spacing else clampSpacing r.spacing := by
    cases leading
    · exact clampSpacing_clampSpacing _
    · rfl
  simp only [AxleRec.clamped, spacing, AxleRec.mk.injEq, true_and]
  exact ⟨clampNat_clampNat _ (by decide), clampNat_clampNat _ (by decide), clampNat_clampNat _ (by decide),
    clampNat_clampNat _ (by decide), evenDown_clampNat_evenDown _ (by decide) (by decide) (by decide)⟩

/-- The clear threshold's range reaches from 50 to 50 below the risk threshold. -/
theorem eOff_range (x : Nat) : 50 ≤ clampNat 100 16384 x - 50 := by
  have := le_clampNat x (by decide : 100 ≤ 16384)
  omega

theorem JointRec.clamped_clamped (r : JointRec) : r.clamped.clamped = r.clamped := by
  simp only [JointRec.clamped, JointRec.mk.injEq, clampNat_clampNat _ (by decide : 100 ≤ 16384),
    clampNat_clampNat _ (by decide : 0 ≤ 100), true_and]
  exact ⟨clampSpacing_clampSpacing _, clampNat_clampNat _ (by decide), clampNat_clampNat _ (eOff_range _),
    clampNat_clampNat _ (by decide), clampNat_clampNat _ (by decide), clampNat_clampNat _ (by decide),
    clampNat_clampNat _ (by decide), clampNat_clampNat _ (clampNat_le _ (by decide)), clampNat_clampNat _ (by decide),
    clampNat_clampNat _ (by decide)⟩

theorem StationRec.clamped_clamped (r : StationRec) : r.clamped.clamped = r.clamped := by
  cases r with
  | axle k r => exact congrArg (StationRec.axle k) (AxleRec.clamped_clamped r _)
  | joint k r => exact congrArg (StationRec.joint k) (JointRec.clamped_clamped r)
  | cab => rfl
  | absent => rfl

/-- The range of v2 begins 1,000 above the clamped v1. -/
theorem v2_range (x : Nat) : clampNat 1000 30000 x + 1000 ≤ 40000 := by
  have := clampNat_le x (by decide : 1000 ≤ 30000)
  omega

theorem stations_clamped_clamped (v : Vector StationRec 8) :
    (v.map StationRec.clamped).map StationRec.clamped = v.map StationRec.clamped := by
  rw [Vector.map_map]
  exact congrArg (v.map ·) (funext StationRec.clamped_clamped)

theorem divisor_taken (d : Nat) : (if (if d = 2 then 2 else 5) = 2 then 2 else 5) = if d = 2 then 2 else 5 := by
  split <;> rfl

theorem code_taken (c : Nat) :
    (if (if c = 3 then 1 else c) = 3 then 1 else if c = 3 then 1 else c) = if c = 3 then 1 else c := by
  split
  · rfl
  · rfl

theorem Profile.clamped_clamped (p : Profile) : p.clamped.clamped = p.clamped := by
  simp only [Profile.clamped, Profile.mk.injEq, clampNat_clampNat _ (by decide : 1000 ≤ 30000),
    clampNat_clampNat _ (by decide : 100 ≤ 800), stations_clamped_clamped, true_and]
  exact ⟨evenDown_clampNat_evenDown _ (by decide) (by decide) (by decide), clampNat_clampNat _ (by decide),
    clampNat_clampNat _ (by decide), clampNat_clampNat _ (by decide), clampNat_clampNat _ (by decide),
    clampNat_clampNat _ (v2_range _), clampNat_clampNat _ (by decide), clampNat_clampNat _ (by decide),
    clampNat_clampNat _ (by decide), clampNat_clampNat _ (by decide), clampNat_clampNat _ (Nat.zero_le _),
    divisor_taken _, code_taken _, code_taken _, clampCal_clampCal (by decide) _, clampCal_clampCal (by decide) _,
    clampCal_clampCal (by decide) _⟩

theorem Profile.clamped_station (p : Profile) (n : Fin 8) : p.clamped.station n = (p.station n).clamped :=
  Vector.getElem_map ..

theorem StationRec.clamped_isAxle (r : StationRec) : r.clamped.isAxle = r.isAxle := by cases r <;> rfl

theorem StationRec.clamped_isLeading (r : StationRec) : r.clamped.isLeading = r.isLeading := by cases r <;> rfl

/-- Settles O11: each field's clamp, the calibrations, the records, and the clamps a second time. -/
theorem profileRanges : Obligations.ProfileRanges := by
  intro p q near nearEven nearCal nearSpacing
  refine ⟨evenDown_clampNat_near _ (by decide) (by decide) (by decide), clampNat_near _ (by decide),
    clampNat_near _ (by decide), clampNat_near _ (by decide), clampNat_near _ (by decide), clampNat_near _ (by decide),
    clampNat_near _ (v2_range _), clampNat_near _ (by decide), clampNat_near _ (by decide), clampNat_near _ (by decide),
    clampNat_near _ (by decide), clampNat_near _ (by decide), clampNat_near _ (by decide), clampNat_near _ (Nat.zero_le _),
    clampNat_near _ (by decide), rfl, rfl, rfl, fun h => if_pos h, fun h => if_neg h, fun h => if_pos h, fun h => if_neg h,
    fun h => if_pos h, fun h => if_neg h, fun h => length_clampCal (limits := axleOffsets) h,
    fun h => length_clampCal (limits := jointOffsets) h, fun h => length_clampCal (limits := cabOffsets) h,
    fun i c hc => clampCal_near (fun _ _ => axleOffsets_getElem?) hc,
    fun i c hc => clampCal_near (fun _ _ => jointOffsets_getElem?) hc,
    fun i c hc => clampCal_near (limit := fun _ => 100) (fun _ _ => cabOffsets_getElem?) hc,
    fun n => ⟨fun h => ?_, fun h => ?_⟩, fun n k r h => ?_, fun n k r h => ?_, Profile.clamped_clamped p⟩
  · rw [Profile.clamped_station, h]; rfl
  · rw [Profile.clamped_station, h]; rfl
  · refine ⟨r.clamped (k == 1), by rw [Profile.clamped_station, h]; rfl, fun hk => ?_, fun hk => ?_,
      clampNat_near _ (by decide), clampNat_near _ (by decide), clampNat_near _ (by decide), clampNat_near _ (by decide),
      evenDown_clampNat_near _ (by decide) (by decide) (by decide)⟩
    · rw [hk]; rfl
    · rw [beq_false_of_ne hk]
      exact clampSpacing_near r.spacing
  · exact ⟨r.clamped, by rw [Profile.clamped_station, h]; rfl, clampSpacing_near _, clampNat_near _ (by decide),
      clampNat_near _ (by decide), clampNat_near _ (eOff_range _), clampNat_near _ (by decide),
      clampNat_near _ (by decide), clampNat_near _ (by decide), clampNat_near _ (by decide), clampNat_near _ (by decide),
      clampNat_near _ (clampNat_le (lo := 0) r.d0 (by decide)), clampNat_near _ (by decide), clampNat_near _ (by decide)⟩

/-! ### A profile that passes (R187, R189) -/

theorem exec_profileLoadComplete {dt : Nat} {m : List Byte} {locks : LockLevels} {s : State} (hp : s.powered = true)
    (hs : s.sc.station = .profileLoad) :
    exec (.profileLoadComplete dt m locks) s = .next (profileLoadComplete m locks (s.elapse dt)) := by
  refine runWhen_ready hp ?_
  have sc : (s.elapse dt).sc = s.sc := by simp
  rw [State.loading, sc, hs]
  rfl

/-- The image in use, whole but for the units that the profile gives reset values. -/
theorem useImage_rest (m : List Byte) (s : State) : (useImage m s).now = s.now ∧ (useImage m s).hu = s.hu ∧
    (useImage m s).su = s.su ∧ (useImage m s).li = { s.li with
      summary :=
        if (readImage m).clamped ≠ readImage m then insertKind .profileClamped s.li.summary else s.li.summary } := by
  rw [useImage, State.raiseIf_eq]
  simp only [Profile.needsClamp, decide_eq_true_eq]
  exact ⟨rfl, rfl, rfl, rfl⟩

theorem mem_insertKind_if {k : EventKind} {P : Prop} [Decidable P] (l : List EventKind) :
    k ∈ (if P then insertKind k l else l) ↔ P ∨ k ∈ l := by
  split <;> simp_all [mem_insertKind]

/-- Settles O9: the image in use and the entry to LISTENING on it. -/
theorem profileLoadPasses : Obligations.ProfileLoadPasses := by
  intro dt m locks s u hp hs hcrc hchecks
  have sc : u.sc = s.sc := by simp [u]
  have li : u.li = s.li := by simp [u]
  have su : u.su = s.su := by simp [u]
  have hu : u.hu = s.hu := by simp [u]
  refine ⟨profileLoadComplete m locks u, exec_profileLoadComplete hp hs, ?_⟩
  clear_value u
  have loaded : profileLoadComplete m locks u =
      enterListening { useImage m u with sc := { (useImage m u).sc with check := .passed, crcFailed := false } } := by
    simp only [profileLoadComplete, hcrc, sc, hchecks, Bool.not_true, Bool.false_eq_true, if_false, if_true]
  rw [loaded]
  set v : State := { useImage m u with sc := { (useImage m u).sc with check := .passed, crcFailed := false } } with hv
  obtain ⟨now, hold, steer, line⟩ := useImage_rest m u
  have vsc : v.sc = { s.sc with
      image := m, signature := storedCrc m, prof := (readImage m).clamped, check := .passed, crcFailed := false } := by
    rw [hv, ← sc, (useImage_units m u).1]
  have own : v.own = ((readImage m).station s.sc.strap).clamped := by
    rw [← Profile.clamped_station, State.own, vsc]
  have vnow : v.now = u.now := now
  have axle : v.own.isAxle = ((readImage m).station s.sc.strap).isAxle := by rw [own, StationRec.clamped_isAxle]
  have leading : v.own.isLeading = ((readImage m).station s.sc.strap).isLeading := by rw [own, StationRec.clamped_isLeading]
  have vsummary : v.li.summary =
      if (readImage m).clamped ≠ readImage m then insertKind .profileClamped s.li.summary else s.li.summary := by
    rw [← li]
    exact congrArg LineInterface.summary line
  have vhu : v.hu = s.hu := hold.trans hu
  have vsu : v.su = s.su := steer.trans su
  clear_value v
  obtain ⟨control, -, summary, steering, holding⟩ := enterListening_units v
  have sched : (enterListening v).sched = startSchedules v.own v.sc.prof (!v.du.doors.isEmpty) v.now := rfl
  rw [vsc, vnow] at control
  rw [axle, vnow, vhu] at holding
  rw [leading, vsu] at steering
  have mode : (enterListening v).li.mode = .waiting u.now := by rw [← vnow]; rfl
  rw [control, holding, steering, sched, summary, mode, vnow, vsc, vsummary]
  refine ⟨rfl, rfl, rfl, rfl, rfl, rfl, rfl, rfl, fun ha => by rw [ha]; rfl, fun ha => by rw [ha]; rfl,
    mem_insertKind_if _, ?_, rfl, rfl, ?_⟩
  · change (if _ then _ else _) = _ ↔ _
    cases ((readImage m).station s.sc.strap).isLeading <;> simp
  · change (if v.own.isAxle then some (later u.now 10000) else none) = _ ↔ _
    rw [axle]
    cases ((readImage m).station s.sc.strap).isAxle <;> simp

/-! ### A profile that fails (R187, R191) -/

theorem HoldUnit.enterInert_latch (axle : Bool) (h : HoldUnit) : (h.enterInert axle).latch = h.latch := by
  cases axle <;> rfl

/-- Settles O10: the failed check, and the entry to INERT on the defaults or on the clamped image. -/
theorem profileLoadFails : Obligations.ProfileLoadFails := by
  intro dt m locks s u hp hs hfail
  have sc : u.sc = s.sc := by simp [u]
  have li : u.li = s.li := by simp [u]
  have su : u.su = s.su := by simp [u]
  have hu : u.hu = s.hu := by simp [u]
  refine ⟨profileLoadComplete m locks u, exec_profileLoadComplete hp hs, ?_⟩
  clear_value u
  have failed : ∃ (crc : Bool) (v : State), profileLoadComplete m locks u = failProfile locks crc v ∧
      v.hu = s.hu ∧ v.su = s.su ∧ v.now = u.now ∧ v.sc.signature = storedCrc m ∧
      (crcHolds m = false → v.sc.prof = Profile.unloaded) ∧
      (crcHolds m = true → v.sc.prof = (readImage m).clamped ∧
        v.own = ((readImage m).station s.sc.strap).clamped) := by
    obtain ⟨now, hold, steer, -⟩ := useImage_rest m u
    have used := (useImage_units m u).1
    obtain ⟨h, eq⟩ | ⟨h, hc, -⟩ | ⟨h, -, eq⟩ := profileLoadComplete_cases m locks u
    · exact ⟨_, _, eq, hu, su, rfl, rfl, fun _ => rfl, fun hc => absurd (h.symm.trans hc) (by decide)⟩
    · rw [sc] at hc
      simp [h, hc] at hfail
    · refine ⟨_, _, eq, hold.trans hu, steer.trans su, now, by rw [used], fun hc => absurd (h.symm.trans hc) (by decide),
        fun _ => ⟨by rw [used], ?_⟩⟩
      rw [State.own, used, sc, Profile.clamped_station]
  obtain ⟨crc, v, eq, vhu, vsu, vnow, signature, bad, good⟩ := failed
  rw [eq, failProfile_eq]
  set w : State := { v with sc := { v.sc with check := .failed, crcFailed := crc } }.startIdleWait with hw
  have wown : w.own = v.own := rfl
  have whu : w.hu = s.hu := vhu
  have wsu : w.su = s.su := vsu
  have wnow : w.now = u.now := vnow
  have mode : w.li.mode = .waiting u.now := by rw [← vnow]; rfl
  have wsc : w.sc = { v.sc with check := .failed, crcFailed := crc } := rfl
  clear_value w
  have unloaded (h : v.sc.prof = Profile.unloaded) : v.own = .absent := by
    rw [State.own, h]
    exact Vector.getElem_replicate ..
  obtain ⟨control, sched, -, -, -, -, steering, -, -, hold, -⟩ := enterInert_units locks w
  rw [control, sched, steering, hold, enterInert_line, mode, wsu, whu, wown, wnow, wsc]
  refine ⟨rfl, rfl, signature, ?_, ?_, rfl, fun hc ha => ?_, fun h => ?_, rfl, rfl, rfl, fun h => ?_, fun hc => ?_,
    fun hc => (good hc).1⟩
  · exact HoldUnit.enterInert_valve ..
  · exact HoldUnit.enterInert_latch ..
  · obtain ⟨-, own⟩ := good hc
    rw [own, StationRec.clamped_isAxle, ha]
    exact ⟨rfl, rfl⟩
  · have noAxle : v.own.isAxle = false := by
      obtain hc | ha := h
      · rw [unloaded (bad hc)]; rfl
      · cases hc : crcHolds m with
        | false => rw [unloaded (bad hc)]; rfl
        | true => rw [(good hc).2, StationRec.clamped_isAxle, ha]
    rw [noAxle]
    rfl
  · change (w.li.pending.notice || !w.li.summary.isEmpty) = true
    change w.li.summary ≠ [] at h
    have events : (!w.li.summary.isEmpty) = true := by simpa using h
    rw [events, Bool.or_true]
  · have prof := bad hc
    have own : (enterInert locks w).own = .absent := by
      rw [State.own, control, wsc]
      exact unloaded prof
    refine ⟨congrArg Profile.divisor prof, congrArg Profile.statusPeriod prof, ?_⟩
    simp only [State.ownPart, own]

end Sys2Proof.Machine
end

section
/-! PROOF. Frames written and read back (R24 to R27). -/

namespace Sys2Proof.Machine

/-! ### Bytes and words read back -/

theorem byteOf_toNat {n : Nat} (h : n < 256) : (byteOf n).toNat = n := by
  rw [byteOf, BitVec.toNat_ofNat, Nat.mod_eq_of_lt h]

theorem byteOf_byteAt (b : Byte) : byteOf b.toNat = b := by
  rw [byteOf, BitVec.ofNat_toNat, BitVec.setWidth_eq]

/-- The two bytes of a word, high byte first, give its number. -/
theorem wordBytes_toNat (w : BitVec 16) : (w.extractLsb' 8 8).toNat * 256 + (w.extractLsb' 0 8).toNat = w.toNat := by
  simp only [BitVec.extractLsb'_toNat, Nat.shiftRight_eq_div_pow]
  have := w.isLt
  omega

/-- The four bytes of a long field, in two words, give its number. -/
theorem longBytes_toNat (w : BitVec 32) :
    ((w.extractLsb' 24 8).toNat * 256 + (w.extractLsb' 16 8).toNat) * 65536 +
      ((w.extractLsb' 8 8).toNat * 256 + (w.extractLsb' 0 8).toNat) = w.toNat := by
  simp only [BitVec.extractLsb'_toNat, Nat.shiftRight_eq_div_pow]
  have := w.isLt
  omega

theorem natWord_toNat {n : Nat} (h : n ≤ 65535) : (BitVec.ofNat 16 n).toNat = n := by
  rw [BitVec.toNat_ofNat, Nat.mod_eq_of_lt (by omega)]

theorem intWord_toInt {x : Int} (h : -32768 ≤ x) (h' : x ≤ 32767) : (BitVec.ofInt 16 x).toInt = x := by
  rw [BitVec.toInt_ofInt, Int.bmod_eq_of_le] <;> simp <;> omega

/-- A word field at `i` whose two bytes are those of `w`. -/
theorem wordAt_of_bytes {b : List Byte} {i : Nat} (w : BitVec 16) (hi : byteAt b i = (w.extractLsb' 8 8).toNat)
    (lo : byteAt b (i + 1) = (w.extractLsb' 0 8).toNat) : wordAt b i = w.toNat := by
  rw [wordAt, hi, lo, wordBytes_toNat]

theorem signedAt_of_bytes {b : List Byte} {i : Nat} {x : Int} (h : -32768 ≤ x) (h' : x ≤ 32767)
    (hi : byteAt b i = ((BitVec.ofInt 16 x).extractLsb' 8 8).toNat)
    (lo : byteAt b (i + 1) = ((BitVec.ofInt 16 x).extractLsb' 0 8).toNat) : signedAt b i = x := by
  rw [signedAt, wordAt_of_bytes _ hi lo, BitVec.ofNat_toNat, BitVec.setWidth_eq, intWord_toInt h h']

/-- Four flags of a byte are read back, and its upper half is clear. -/
theorem bitOf_flags : ∀ a b c d : Bool,
    let x := (byteOf (bitIf a 0 + bitIf b 1 + bitIf c 2 + bitIf d 3)).toNat
    x < 16 ∧ bitOf x 0 = a ∧ bitOf x 1 = b ∧ bitOf x 2 = c ∧ bitOf x 3 = d := by decide

/-! ### Codes read back (R26) -/

theorem stationStateOf_code {st : StationState} (h : st.runs = true ∨ st = .inert) :
    stationStateOf (byteOf st.code).toNat = some st := by
  cases st with
  | powerup | profileLoad => obtain h | h := h <;> cases h
  | listening | active | isolated | inert => rfl

theorem holdFieldOf_code (x : HoldField) : holdFieldOf (byteOf x.code).toNat = some x := by cases x <;> rfl

theorem levelStateOf_code (x : LevelState) : levelStateOf (byteOf x.code).toNat = some x := by cases x <;> rfl

theorem steerStateOf_code (x : SteerState) : steerStateOf (byteOf x.code).toNat = some x := by cases x <;> rfl

theorem doorFieldOf_code (x : DoorField) : doorFieldOf (byteOf x.code).toNat = some x := by cases x <;> rfl

theorem jointStateOf_code (x : JointState) : jointStateOf (byteOf x.code).toNat = some x := by cases x <;> rfl

theorem qualityOf_code (x : Quality) : qualityOf (byteOf x.code).toNat = some x := by cases x <;> rfl

theorem holdRequestOf_code (x : HoldRequest) : holdRequestOf (byteOf x.code).toNat = some x := by cases x <;> rfl

theorem kneelRequestOf_code (x : KneelRequest) : kneelRequestOf (byteOf x.code).toNat = some x := by cases x <;> rfl

theorem eventKindOf_code (x : EventKind) : eventKindOf (byteOf x.code).toNat = some x := by cases x <;> rfl

theorem EventKind.code_bounds (x : EventKind) : 1 ≤ x.code ∧ x.code ≤ 24 := by cases x <;> decide

/-- Two kinds of one code byte are the same kind. -/
theorem eventByte_injective : Function.Injective fun k : EventKind => byteOf k.code := fun a b h =>
  Option.some.inj <| (eventKindOf_code a).symm.trans <|
    (congrArg (fun x : Byte => eventKindOf x.toNat) h).trans (eventKindOf_code b)

/-! ### A frame read by another station -/

theorem kindCode_lt (k : FrameKind) : kindCode k < 256 := by cases k <;> decide

section
variable {kind : FrameKind} {n : Fin 8} {body : List Byte}

/-- The covered length is told by the third character. -/
theorem frameChars_length (h : body.length < 256) :
    3 + byteAt (frameChars kind n body) 2 = ([byteOf (kindCode kind), byteOf n.val, byteOf body.length] ++ body).length := by
  have len : byteAt (frameChars kind n body) 2 = body.length := byteOf_toNat h
  rw [len, List.length_append]
  rfl

theorem frameChars_covered (h : body.length < 256) :
    coveredOf (frameChars kind n body) = [byteOf (kindCode kind), byteOf n.val, byteOf body.length] ++ body := by
  rw [coveredOf, frameChars_length h]
  exact List.take_left

theorem frameChars_crc (h : body.length < 256) : wordBytes (crc16 (coveredOf (frameChars kind n body))) =
    (frameChars kind n body).drop (3 + byteAt (frameChars kind n body) 2) := by
  rw [frameChars_covered h, frameChars_length h]
  exact List.drop_left.symm

end

/-- A frame of the required length, of a listed station that may send it, is accepted as what its body reads as. -/
theorem judge_frameChars {p : Profile} {own n : Fin 8} {kind : FrameKind} {body : List Byte} {f : Frame} (hn : n ≠ own)
    (hp : p.station n ≠ .absent) (hk : kindAllowed kind n (p.station n) = true) (hb : body.length < 256)
    (hl : lengthOk kind body = true) (hf : frameOf kind (p.station n) body = some f) :
    judge p own (frameChars kind n body) = .accepted n f := by
  have rest : (coveredOf (frameChars kind n body)).drop 3 = body := by rw [frameChars_covered hb]; rfl
  have code : byteAt (frameChars kind n body) 0 = kindCode kind := byteOf_toNat (kindCode_lt kind)
  have sender : byteAt (frameChars kind n body) 1 = n.val := byteOf_toNat (by omega)
  rw [judge_sender (frameChars_crc hb) code (by rw [rest]; exact hl), rest, sender, judgeSender_read hn hp hk, hf]

/-! ### PATH (R26) -/

theorem pathOf_body (x : PathPoint) : pathOf x.body = some x := by
  have epoch : byteAt x.body 0 = x.epoch.toNat := byteOf_toNat (by omega)
  have pad : byteAt x.body 9 = 0 := rfl
  have distance : wordAt x.body 1 * 65536 + wordAt x.body 3 = x.distance.toNat := longBytes_toNat x.distance
  have tangent : wordAt x.body 5 = x.tangent.toNat := wordAt_of_bytes x.tangent rfl rfl
  have section_ : wordAt x.body 7 = x.section_.toNat := wordAt_of_bytes x.section_ rfl rfl
  rw [pathOf, if_pos ⟨by omega, pad⟩]
  simp only [epoch, distance, tangent, section_, BitVec.ofNat_toNat, BitVec.setWidth_eq]

/-! ### DEMAND (R26) -/

/-- The door numbers of a list in range. -/
theorem doorListOk_iff (l : List Nat) : doorListOk l = true ↔ (∀ d ∈ l, 1 ≤ d ∧ d ≤ 8) ∧ l.Nodup := by
  simp [doorListOk]

/-- Distinct numbers of 1 to `n` are at most `n`. -/
theorem length_le_of_nodup {l : List Nat} {n : Nat} (h : ∀ d ∈ l, 1 ≤ d ∧ d ≤ n) (hn : l.Nodup) : l.length ≤ n := by
  have card := Finset.card_le_card (s := l.toFinset) (t := Finset.Icc 1 n)
    fun d hd => Finset.mem_Icc.2 (h d (List.mem_toFinset.1 hd))
  rwa [List.toFinset_card_of_nodup hn, Nat.card_Icc, Nat.add_sub_cancel] at card

theorem map_byteOf_toNat {l : List Nat} (h : ∀ d ∈ l, d < 256) : (l.map byteOf).map BitVec.toNat = l := by
  rw [List.map_map]
  exact (List.map_congr_left fun d hd => byteOf_toNat (h d hd)).trans (List.map_id l)

/-- A list in range has at most eight numbers, each of which a byte holds. -/
theorem doorList_bounds {l : List Nat} (h : doorListOk l = true) : l.length ≤ 8 ∧ (l.map byteOf).map BitVec.toNat = l := by
  obtain ⟨range, nodup⟩ := (doorListOk_iff l).1 h
  refine ⟨length_le_of_nodup range nodup, map_byteOf_toNat fun d hd => ?_⟩
  have := range d hd
  omega

theorem DemandRec.body_length (r : DemandRec) : r.body.length = 9 + r.release.length + r.opens.length := by
  simp [DemandRec.body, natBytes, wordBytes]
  omega

section
variable {r : DemandRec} (h : r.Sendable)
include h

theorem DemandRec.body_counts : byteAt r.body 7 = r.release.length ∧ byteAt r.body 8 = r.opens.length := by
  obtain ⟨-, release, opens⟩ := h
  have := (doorList_bounds release).1
  have := (doorList_bounds opens).1
  exact ⟨byteOf_toNat (by omega), byteOf_toNat (by omega)⟩

theorem DemandRec.body_lists : ((r.body.drop 9).take r.release.length).map BitVec.toNat = r.release ∧
    ((r.body.drop (9 + r.release.length)).take r.opens.length).map BitVec.toNat = r.opens := by
  obtain ⟨-, release, opens⟩ := h
  have lists : r.body.drop 9 = r.release.map byteOf ++ r.opens.map byteOf := by
    simp [DemandRec.body, natBytes, wordBytes]
  constructor
  · rw [lists, List.take_left' (List.length_map ..)]
    exact (doorList_bounds release).2
  · rw [← List.drop_drop, lists, List.drop_left' (List.length_map ..), List.take_of_length_le (by simp)]
    exact (doorList_bounds opens).2

theorem demandOf_body : demandOf r.body = some r := by
  obtain ⟨release, opens⟩ := DemandRec.body_lists h
  obtain ⟨nr, no⟩ := DemandRec.body_counts h
  obtain ⟨hb, hr, ho⟩ := h
  have brake : wordAt r.body 1 = r.brake :=
    (wordAt_of_bytes (BitVec.ofNat 16 r.brake) rfl rfl).trans (natWord_toNat (by omega))
  have quality : qualityOf (byteAt r.body 3) = some r.quality := qualityOf_code _
  have hold : holdRequestOf (byteAt r.body 4) = some r.hold := holdRequestOf_code _
  have kneel : kneelRequestOf (byteAt r.body 5) = some r.kneel := kneelRequestOf_code _
  have seq : byteOf (byteAt r.body 0) = r.seq := byteOf_byteAt _
  have clear : byteOf (byteAt r.body 6) = r.clear := byteOf_byteAt _
  have range : r.brake ≤ 800 ∧ r.release.length ≤ 8 ∧ r.opens.length ≤ 8 ∧ doorListOk r.release = true ∧
      doorListOk r.opens = true := ⟨hb, (doorList_bounds hr).1, (doorList_bounds ho).1, hr, ho⟩
  simp only [demandOf, nr, no, release, opens, brake, quality, hold, kneel, seq, clear, if_pos range]

theorem lengthOk_demand : r.body.length < 256 ∧ lengthOk .demand r.body = true := by
  obtain ⟨nr, no⟩ := DemandRec.body_counts h
  have length := r.body_length
  obtain ⟨-, hr, ho⟩ := h
  have := (doorList_bounds hr).1
  have := (doorList_bounds ho).1
  refine ⟨by omega, ?_⟩
  rw [lengthOk, nr, no, length, beq_self_eq_true]

end

/-! ### NOTICE (R26, R37) -/

theorem kindsOf_codes (l : List EventKind) : kindsOf (l.map fun k => byteOf k.code) = some l := by
  induction l with
  | nil => rfl
  | cons k l ih =>
    rw [List.map_cons, kindsOf, eventKindOf_code, ih]

theorem length_kinds_le {l : List EventKind} (h : l.Nodup) : l.length ≤ 24 := by
  have codes := length_le_of_nodup (l := l.map EventKind.code) (n := 24)
    (fun c hc => by obtain ⟨k, -, rfl⟩ := List.mem_map.1 hc; exact k.code_bounds)
    (h.map fun a b hab => eventByte_injective (congrArg byteOf hab))
  rwa [List.length_map] at codes

theorem noticeOf_body {l : List EventKind} (hl : l ≠ []) (h : l.Nodup) : noticeOf (noticeBody l) = some l := by
  have short := length_kinds_le h
  have nonempty : 1 ≤ l.length := List.length_pos_iff.2 hl
  have count : byteAt (noticeBody l) 0 = l.length := byteOf_toNat (by omega)
  have rest : (noticeBody l).drop 1 = l.map fun k => byteOf k.code := rfl
  rw [noticeOf, count, rest, if_pos ⟨nonempty, short, h.map eventByte_injective⟩, kindsOf_codes]

/-! ### STATUS (R26) -/

theorem doorEntriesOf_bytes {l : List DoorEntry} (h : ∀ d ∈ l, 1 ≤ d.number ∧ d.number ≤ 8) :
    doorEntriesOf (l.flatMap fun d => [byteOf d.number, byteOf d.state.code]) = some l := by
  induction l with
  | nil => rfl
  | cons d l ih =>
    have number := h d (by simp)
    have read : (byteOf d.number).toNat = d.number := byteOf_toNat (by omega)
    have rest := ih fun x hx => h x (by simp [hx])
    simp only [List.flatMap_cons, List.cons_append, List.nil_append, doorEntriesOf, read, number, and_self, if_true,
      doorFieldOf_code, rest]

section
variable {a b c d e f : Byte}

theorem axlePartOf_bytes {x : AxlePart} (h : x.Sendable) : axlePartOf (a :: b :: c :: d :: e :: f :: x.bytes) = some x := by
  obtain ⟨hs, hl, lo, hi, hd, hn⟩ := h
  set body := a :: b :: c :: d :: e :: f :: x.bytes with hbody
  have speed : wordAt body 6 = x.speed := (wordAt_of_bytes (BitVec.ofNat 16 x.speed) rfl rfl).trans (natWord_toNat hs)
  have load : wordAt body 9 = x.load := (wordAt_of_bytes (BitVec.ofNat 16 x.load) rfl rfl).trans (natWord_toNat hl)
  have hold : holdFieldOf (byteAt body 11) = some x.hold := holdFieldOf_code _
  have level : levelStateOf (byteAt body 12) = some x.level := levelStateOf_code _
  have steer : steerStateOf (byteAt body 13) = some x.steer := steerStateOf_code _
  have command : signedAt body 14 = x.command := signedAt_of_bytes (by omega) (by omega) rfl rfl
  have count : byteAt body 16 = x.doors.length := byteOf_toNat (by omega)
  have doors : doorEntriesOf (body.drop 17) = some x.doors := doorEntriesOf_bytes hn
  obtain ⟨small, reverse, standstill, frozen, slip⟩ :=
    bitOf_flags (decide (x.direction = .reverse)) x.standstill x.frozen x.slip
  have direction : (if bitOf (byteAt body 8) 0 then Direction.reverse else .forward) = x.direction := by
    refine (congrArg (fun r : Bool => if r then Direction.reverse else .forward) reverse).trans ?_
    cases x.direction <;> rfl
  have range : byteAt body 8 < 16 ∧ byteAt body 16 ≤ 2 ∧ -2500 ≤ x.command ∧ x.command ≤ 2500 :=
    ⟨small, by omega, lo, hi⟩
  have flags : bitOf (byteAt body 8) 1 = x.standstill ∧ bitOf (byteAt body 8) 2 = x.frozen ∧
      bitOf (byteAt body 8) 3 = x.slip := ⟨standstill, frozen, slip⟩
  simp only [axlePartOf, hold, level, steer, doors, if_pos range, speed, load, command, direction, flags]

theorem jointPartOf_bytes {x : JointPart} (h : x.Sendable) :
    jointPartOf (a :: b :: c :: d :: e :: f :: x.bytes) = some x := by
  obtain ⟨lo, hi, hd⟩ := h
  set body := a :: b :: c :: d :: e :: f :: x.bytes with hbody
  have state : jointStateOf (byteAt body 8) = some x.state := jointStateOf_code _
  have angle : signedAt body 6 = x.angle := signedAt_of_bytes (by omega) (by omega) rfl rfl
  have damping : byteAt body 10 = x.damping := byteOf_toNat (by omega)
  have risk : byteAt body 9 ≤ 1 ∧ (byteAt body 9 == 1) = x.risk := by
    change (byteOf (bitIf x.risk 0)).toNat ≤ 1 ∧ ((byteOf (bitIf x.risk 0)).toNat == 1) = x.risk
    cases x.risk <;> decide
  have range : -16384 ≤ x.angle ∧ x.angle ≤ 16384 ∧ byteAt body 9 ≤ 1 ∧ x.damping ≤ 100 := ⟨lo, hi, risk.1, hd⟩
  simp only [jointPartOf, state, angle, damping, if_pos range, risk.2]

end

/-- A role part is read as one of its sender's role. -/
theorem rolePartOf_bytes {part : RolePart} {sender : StationRec} (h : part.Sendable sender) {a b c d e : Byte} :
    rolePartOf sender (a :: b :: c :: d :: e :: part.bytes) = some part := by
  cases part with
  | none =>
    obtain rfl : sender = .cab := h
    rfl
  | axle x =>
    obtain ⟨hr, hx⟩ := h
    cases sender with
    | axle k r => exact congrArg (Option.map RolePart.axle) (axlePartOf_bytes hx)
    | absent | cab | joint => cases hr
  | joint x =>
    obtain ⟨hr, hx⟩ := h
    cases sender with
    | joint k r => exact congrArg (Option.map RolePart.joint) (jointPartOf_bytes hx)
    | absent | cab | axle => cases hr

theorem latchSetOf_byte (l : LatchSet) : latchSetOf l.byte.toNat = some l := by
  obtain ⟨small, steer, level, door, hold⟩ := bitOf_flags l.steer l.level l.door l.hold
  refine (if_pos small).trans ?_
  rw [LatchSet.byte, steer, level, door, hold]

section
variable {r : StatusRec} {sender : StationRec} (h : r.Sendable sender)
include h

theorem statusOf_body : statusOf sender r.body = some r := by
  obtain ⟨hs, hp⟩ := h
  have station : stationStateOf (byteAt r.body 0) = some r.station := stationStateOf_code hs
  have latches : latchSetOf (byteAt r.body 3) = some r.latches := latchSetOf_byte _
  have part : rolePartOf sender r.body = some r.part := rolePartOf_bytes hp
  have signature : wordAt r.body 1 = r.signature.toNat := wordAt_of_bytes r.signature rfl rfl
  have seq : byteOf (byteAt r.body 4) = r.seq := byteOf_byteAt _
  simp only [statusOf, station, latches, part, signature, seq, BitVec.ofNat_toNat, BitVec.setWidth_eq]

theorem lengthOk_status : r.body.length < 256 ∧ lengthOk .status r.body = true := by
  obtain ⟨-, hp⟩ := h
  cases part : r.part with
  | none =>
    have code : byteAt r.body 5 = 0 := by rw [StatusRec.body, part]; rfl
    have length : r.body.length = 6 := by rw [StatusRec.body, part]; rfl
    simp [lengthOk, code, length]
  | joint x =>
    have code : byteAt r.body 5 = 2 := by rw [StatusRec.body, part]; rfl
    have length : r.body.length = 11 := by rw [StatusRec.body, part]; rfl
    simp [lengthOk, code, length]
  | axle x =>
    rw [part] at hp
    obtain ⟨-, -, -, -, -, hd, -⟩ := hp
    have code : byteAt r.body 5 = 1 := by rw [StatusRec.body, part]; rfl
    have count : byteAt r.body 16 = x.doors.length := by
      rw [StatusRec.body, part]
      exact byteOf_toNat (by omega)
    have length : r.body.length = 17 + 2 * x.doors.length := by
      simp [StatusRec.body, part, RolePart.bytes, AxlePart.bytes, natBytes, intBytes, wordBytes, List.length_flatMap]
      omega
    have six : ¬17 + 2 * x.doors.length < 6 := by omega
    refine ⟨by omega, ?_⟩
    simp only [lengthOk, code, count, length, if_neg six, beq_self_eq_true]

theorem StatusRec.Sendable.listed : sender ≠ .absent := by
  rintro rfl
  obtain ⟨-, hp⟩ := h
  cases part : r.part with
  | none => rw [part] at hp; cases hp
  | axle x => rw [part] at hp; cases hp.1
  | joint x => rw [part] at hp; cases hp.1

end

/-! ### The round trips -/

/-- Settles O54: a STATUS record is written, accepted and read back. -/
theorem statusFramesRoundTrip : Obligations.StatusFramesRoundTrip := by
  intro p own n r hn h
  obtain ⟨short, length⟩ := lengthOk_status h
  exact judge_frameChars hn h.listed rfl short length (congrArg (Option.map Frame.status) (statusOf_body h))

/-- Settles O55: a point, a DEMAND record and a NOTICE are written, accepted and read back. -/
theorem otherFramesRoundTrip : Obligations.OtherFramesRoundTrip := by
  intro p own n hn hp
  have listed : p.station n ≠ .absent := (StationRec.isPresent_iff _).1 hp
  refine ⟨fun x hl => ?_, fun r h0 hr => ?_, fun l hl hd => ?_⟩
  · exact judge_frameChars hn listed hl (show 10 < 256 by decide) rfl (congrArg (Option.map Frame.path) (pathOf_body x))
  · obtain ⟨short, length⟩ := lengthOk_demand hr
    exact judge_frameChars hn listed (decide_eq_true h0) short length
      (congrArg (Option.map Frame.demand) (demandOf_body hr))
  · have := length_kinds_le hd
    have count : byteAt (noticeBody l) 0 = l.length := byteOf_toNat (by omega)
    have length : (noticeBody l).length = 1 + l.length := by simp [noticeBody, Nat.add_comm]
    refine judge_frameChars hn listed rfl (by omega) ?_ (congrArg (Option.map Frame.notice) (noticeOf_body hl hd))
    rw [lengthOk, count, length, beq_self_eq_true]

end Sys2Proof.Machine
end
